-- ==== Sys2Proof/Word.lean ====
section
/-! DEFINITION. The two word types of the block and the eight-byte unit: bytes, the 16-bit CRC word, and the frame shape
that requests, responses and records share (spec 00_scope.md R10, 20_memory.md R60). -/

namespace Sys2Proof

/-- A byte, `u8` (R10). -/
abbrev Byte := BitVec 8

/-- A 16-bit word, `u16` (R10): the CRC register and nothing else in the block is this wide. -/
abbrev Word := BitVec 16

/-- One 8-byte unit, byte 0 first on the wire (R10, R61): a request, a response or a record.  The three byte spaces of the
block hold exactly one unit each (R60). -/
structure Frame where
  b0 : Byte
  b1 : Byte
  b2 : Byte
  b3 : Byte
  b4 : Byte
  b5 : Byte
  b6 : Byte
  b7 : Byte
deriving DecidableEq, Repr

/-- The six bytes a CRC covers (R7 `CRC_COVER`). -/
structure Six where
  b0 : Byte
  b1 : Byte
  b2 : Byte
  b3 : Byte
  b4 : Byte
  b5 : Byte
deriving DecidableEq, Repr

end Sys2Proof
end

