-- ==== Sys2Proof/Config.lean ====
section
/-! DEFINITION. The parameters of the hardware (spec 00_scope.md R8), their well-formedness (R9), and the free values.
The protocol constants are not in the source: every rule is stated over `Params`, a `State` carries the `Params` of its
build, and no step changes them.  The numbers used for running the model are in Machine/Reference.lean. -/

namespace Sys2Proof

/-- Build option `TRANSPORT` (R8). -/
inductive Transport where
  | serial
  | spi
deriving DecidableEq, Repr

/-- Option `MAGIC_POLICY` (R8, R111). -/
inductive MagicPolicy where
  | ignore
  | invalid
deriving DecidableEq, Repr

/-- `DriverKind`, what `get_type()` of a driver answers (10_state.md R39). -/
inductive DriverKind where
  | dummy
  | usbBootKeyboard
  | usbFullKeyboard
  | usbMouseAbsolute
  | usbMouseAbsoluteCompat
  | usbMouseRelative
  | ps2Keyboard
  | ps2Mouse
deriving DecidableEq, Repr

/-- Where one mouse button's (select, state) bit pair lies (R8, R105): `inByte1` is `BTN_b_BYTE = 1`. -/
structure ButtonPair where
  inByte1 : Bool
  select : Byte
  state : Byte
deriving DecidableEq, Repr

/-- The parameters of R8, one field each, in the order of the rule's table.  The translation data of the last group are the
functions of R8 written as tables, so that they are plain data: a code that a table does not list has no entry.  The last
three fields say which driver variant the surrounding software instantiates where the source does not (R371). -/
structure Params where
  requestMagic : Byte
  responseMagic : Byte
  storageMagic : Byte
  cmdPing : Byte
  cmdSetKeyboardBackend : Byte
  cmdSetMouseBackend : Byte
  cmdSetUsbConnected : Byte
  cmdClearAll : Byte
  cmdKeyEvent : Byte
  cmdMouseButtonEvent : Byte
  cmdMouseAbsoluteMove : Byte
  cmdMouseRelativeMove : Byte
  cmdMouseWheel : Byte
  cmdRepeatLast : Byte
  stCrcError : Byte
  stTimeoutError : Byte
  stInvalidError : Byte
  stOk : Byte
  stResetRequired : Byte
  stKbdOffline : Byte
  stMouseOffline : Byte
  stLedCaps : Byte
  stLedNum : Byte
  stLedScroll : Byte
  bkKbdMask : Byte
  bkMouseMask : Byte
  bkDynamic : Byte
  kbdNone : Byte
  kbdUsb : Byte
  kbdPs2 : Byte
  mouseNone : Byte
  mouseUsbAbs : Byte
  mouseUsbCompat : Byte
  mouseUsbRel : Byte
  mousePs2 : Byte
  capHasUsb : Byte
  capHasUsbCompat : Byte
  capHasPs2 : Byte
  capVbusConnectable : Byte
  capVbusConnected : Byte
  btnLeft : ButtonPair
  btnRight : ButtonPair
  btnMiddle : ButtonPair
  btnWheelUp : ButtonPair
  btnWheelDown : ButtonPair
  transport : Transport
  hasUsb : Bool
  hasUsbCompat : Bool
  hasPs2 : Bool
  vbusConnectable : Bool
  dynamicSupported : Bool
  defaultOutputs : Byte
  /-- `SERIAL_TIMEOUT`: named by R8 and read by no rule. -/
  serialTimeout : Nat
  /-- `SERIAL_BAUD`: named by R8 and read by no rule. -/
  serialBaud : Nat
  ps2TxqDepth : Nat
  ps2AckParam : Bool
  nvWriteAtomic : Bool
  magicPolicy : MagicPolicy
  /-- `PS2_SCANCODE` as (code, scan code) entries. -/
  ps2Scancode : List (Byte × Byte)
  /-- `PS2_EXTENDED` as the list of its members. -/
  ps2Extended : List Byte
  /-- `PS2_SPECIAL` as the list of its members. -/
  ps2Special : List Byte
  /-- `PS2_SPECIAL_SEQ` as ((code, pressed), bytes) entries. -/
  ps2SpecialSeq : List ((Byte × Bool) × List Byte)
  hidLeftArrow : Byte
  /-- The variant that the selection `KBD_USB` instantiates (left to the surrounding software, R371). -/
  usbKeyboardKind : DriverKind
  /-- The keyboard driver for a selection that is not legal or that the build lacks (93_implementation_defined.md U20). -/
  oddKeyboardKind : DriverKind
  /-- The mouse driver for a selection that is not legal or that the build lacks (U20). -/
  oddMouseKind : DriverKind
deriving DecidableEq, Repr

/-- Exactly one bit of a mask is set (R9). -/
abbrev oneBit (m : Byte) : Prop := m ≠ 0#8 ∧ m &&& (m - 1#8) = 0#8

/-- Masks of a list share no bit, two by two (R9). -/
abbrev disjoint (ms : List Byte) : Prop := ms.Pairwise (fun a b => a &&& b = 0#8)

/-- The eleven command codes, in the order of R180's selection. -/
def Params.commandCodes (p : Params) : List Byte :=
  [p.cmdPing, p.cmdSetKeyboardBackend, p.cmdSetMouseBackend, p.cmdSetUsbConnected, p.cmdClearAll, p.cmdKeyEvent,
    p.cmdMouseButtonEvent, p.cmdMouseAbsoluteMove, p.cmdMouseRelativeMove, p.cmdMouseWheel, p.cmdRepeatLast]

/-- The seven status bits (R8). -/
def Params.statusBits (p : Params) : List Byte :=
  [p.stOk, p.stResetRequired, p.stKbdOffline, p.stMouseOffline, p.stLedCaps, p.stLedNum, p.stLedScroll]

/-- The three whole-byte status codes (R8). -/
def Params.errorCodes (p : Params) : List Byte := [p.stCrcError, p.stTimeoutError, p.stInvalidError]

/-- The five capability bits (R8). -/
def Params.capBits (p : Params) : List Byte :=
  [p.capHasUsb, p.capHasUsbCompat, p.capHasPs2, p.capVbusConnectable, p.capVbusConnected]

/-- The five button pairs (R8, R105). -/
def Params.buttons (p : Params) : List ButtonPair := [p.btnLeft, p.btnRight, p.btnMiddle, p.btnWheelUp, p.btnWheelDown]

/-- The legal keyboard selections (10_state.md R33). -/
def Params.kbdValues (p : Params) : List Byte := [p.kbdNone, p.kbdUsb, p.kbdPs2]

/-- The legal mouse selections (R33). -/
def Params.mouseValues (p : Params) : List Byte :=
  [p.mouseNone, p.mouseUsbAbs, p.mouseUsbCompat, p.mouseUsbRel, p.mousePs2]

/-- The masks of the buttons that share one payload byte (R9 item 7). -/
def Params.buttonMasks (p : Params) (inByte1 : Bool) : List Byte :=
  (p.buttons.filter (fun b => b.inByte1 = inByte1)).flatMap (fun b => [b.select, b.state])

/-- R9 items 1 and 2. -/
abbrev Params.CommandsOk (p : Params) : Prop := p.commandCodes.Nodup ∧ 0xFF#8 ∉ p.commandCodes

/-- R9 items 3 and 4. -/
abbrev Params.StatusOk (p : Params) : Prop :=
  p.errorCodes.Nodup ∧ (∀ e ∈ p.errorCodes, e ≠ 0#8 ∧ e &&& p.stOk = 0#8) ∧
  (∀ m ∈ p.statusBits, oneBit m) ∧ disjoint p.statusBits

/-- R9 item 5. -/
abbrev Params.BackendOk (p : Params) : Prop :=
  disjoint [p.bkKbdMask, p.bkMouseMask, p.bkDynamic] ∧
  (∀ v ∈ p.kbdValues, v &&& ~~~p.bkKbdMask = 0#8) ∧ (∀ v ∈ p.mouseValues, v &&& ~~~p.bkMouseMask = 0#8) ∧
  p.kbdValues.Nodup ∧ p.mouseValues.Nodup

/-- R9 item 6. -/
abbrev Params.CapsOk (p : Params) : Prop := (∀ m ∈ p.capBits, oneBit m) ∧ disjoint p.capBits

/-- R9 item 7. -/
abbrev Params.ButtonsOk (p : Params) : Prop :=
  (∀ b ∈ p.buttons, oneBit b.select ∧ oneBit b.state) ∧
  disjoint (p.buttonMasks false) ∧ disjoint (p.buttonMasks true)

/-- R9 items 8 and 9. -/
abbrev Params.TransportOk (p : Params) : Prop :=
  3 ≤ p.ps2TxqDepth ∧ (p.transport = .spi → p.requestMagic ≠ 0#8 ∧ p.responseMagic ≠ 0#8)

/-- The one data point on the translation data (45_ps2_keyboard_commands.md R295). -/
abbrev Params.LeftArrowOk (p : Params) : Prop :=
  p.ps2Scancode.lookup p.hidLeftArrow = some 0x6B#8 ∧ p.hidLeftArrow ∈ p.ps2Extended ∧ p.hidLeftArrow ∉ p.ps2Special

/-- Well-formedness of a parameter assignment: all nine items of R9 and the data point of R295. -/
abbrev Params.WF (p : Params) : Prop :=
  p.CommandsOk ∧ p.StatusOk ∧ p.BackendOk ∧ p.CapsOk ∧ p.ButtonsOk ∧ p.TransportOk ∧ p.LeftArrowOk

/-- FREE VALUE (log entry 3).  The bytes that `FRAME.EMIT` sends for a repeat when nothing has been composed since reset:
"the eight bytes emitted are unspecified" (43_response.md R220).  No body: nothing can be proved of a value of it. -/
opaque Config.freeByte : Nat → Byte

end Sys2Proof
end

