-- ==== Sys2Proof/Machine/Reference.lean ====
section
/-! DEFINITION. `P_REF`, the reference instantiation of the parameters (93_implementation_defined.md section 2).  It is NOT from
the source: the model runs on it, `State.reset` and `decodeTableWord` use it, and no rule depends on it (log entry 1). -/

namespace Sys2Proof

/-- `P_REF` with the build options of the standard state of 95_test_vectors.md.  Where `P_REF` offers no value the log names
the one taken (log entry 1). -/
def pRef : Params where
  requestMagic := 0x33#8
  responseMagic := 0x34#8
  storageMagic := 0x33#8
  cmdPing := 0x01#8
  cmdSetKeyboardBackend := 0x03#8
  cmdSetMouseBackend := 0x04#8
  cmdSetUsbConnected := 0x05#8
  cmdClearAll := 0x10#8
  cmdKeyEvent := 0x11#8
  cmdMouseButtonEvent := 0x13#8
  cmdMouseAbsoluteMove := 0x12#8
  cmdMouseRelativeMove := 0x15#8
  cmdMouseWheel := 0x14#8
  cmdRepeatLast := 0x02#8
  stCrcError := 0x40#8
  stTimeoutError := 0x48#8
  stInvalidError := 0x45#8
  stOk := 0x80#8
  stResetRequired := 0x40#8
  stKbdOffline := 0x08#8
  stMouseOffline := 0x10#8
  stLedCaps := 0x01#8
  stLedNum := 0x04#8
  stLedScroll := 0x02#8
  bkKbdMask := 0x07#8
  bkMouseMask := 0x38#8
  bkDynamic := 0x80#8
  kbdNone := 0x00#8
  kbdUsb := 0x01#8
  kbdPs2 := 0x03#8
  mouseNone := 0x00#8
  mouseUsbAbs := 0x08#8
  mouseUsbCompat := 0x20#8
  mouseUsbRel := 0x10#8
  mousePs2 := 0x18#8
  capHasUsb := 0x01#8
  capHasUsbCompat := 0x04#8
  capHasPs2 := 0x02#8
  capVbusConnectable := 0x80#8
  capVbusConnected := 0x40#8
  btnLeft := ⟨false, 0x80#8, 0x08#8⟩
  btnRight := ⟨false, 0x40#8, 0x04#8⟩
  btnMiddle := ⟨false, 0x20#8, 0x02#8⟩
  btnWheelUp := ⟨true, 0x80#8, 0x08#8⟩
  btnWheelDown := ⟨true, 0x40#8, 0x04#8⟩
  transport := .serial
  hasUsb := true
  hasUsbCompat := false
  hasPs2 := true
  vbusConnectable := false
  dynamicSupported := true
  defaultOutputs := 0x09#8
  serialTimeout := 0
  serialBaud := 0
  ps2TxqDepth := 16
  ps2AckParam := true
  nvWriteAtomic := true
  magicPolicy := .ignore
  ps2Scancode := [(0x50#8, 0x6B#8)]
  ps2Extended := [0x50#8]
  ps2Special := []
  ps2SpecialSeq := []
  hidLeftArrow := 0x50#8
  usbKeyboardKind := .usbBootKeyboard
  oddKeyboardKind := .dummy
  oddMouseKind := .dummy

end Sys2Proof
end

