-- ==== Sys2Proof/Syntax.lean ====
section
/-! DEFINITION. The abstract syntax: one constructor of `Instr` for each of the 51 rows of spec/opcode_table.json, with the
operands the row's encoding (or the operation's rule) gives it. -/

namespace Sys2Proof

/-- The two PS/2 channels (00_scope.md R12). -/
inductive Chan where
  | kbd
  | mouse
deriving DecidableEq, Repr

/-- What a request frame decodes to, and what the request latch holds (10_state.md R22): a request that passed the CRC check,
a complete unit that failed it, or a partial request that was abandoned. -/
inductive Req where
  | ok (magicOk : Bool) (cmd p0 p1 p2 p3 : Byte)
  | crcErr
  | timeout
deriving DecidableEq, Repr

/-- The rows of the opcode table.  In a `REQ` row `m` is the magic byte and `x0` … `x3` are payload bytes beyond the arity:
they are part of the encoding and no command reads them (30_encoding.md R97). -/
inductive Instr where
  -- format REQ (R96, 42_commands.md)
  | ping (m x0 x1 x2 x3 : Byte)
  | repeatLast (m x0 x1 x2 x3 : Byte)
  | setKeyboardBackend (m bits x1 x2 x3 : Byte)
  | setMouseBackend (m bits x1 x2 x3 : Byte)
  | setUsbConnected (m flag x1 x2 x3 : Byte)
  | clearAll (m x0 x1 x2 x3 : Byte)
  | keyEvent (m code pressed x2 x3 : Byte)
  | mouseAbsoluteMove (m xHi xLo yHi yLo : Byte)
  | mouseButtonEvent (m mask0 mask1 x2 x3 : Byte)
  | mouseWheel (m x0 dy x2 x3 : Byte)
  | mouseRelativeMove (m dx dy x2 x3 : Byte)
  | unrecognisedCommand (m cmd x0 x1 x2 x3 : Byte)
  | crcMismatch (f : Frame)
  -- format KCMD (R107, 45_ps2_keyboard_commands.md)
  | kbdReset
  | kbdResend
  | kbdEcho
  | kbdIdentify
  | kbdSetLeds
  | kbdSetTypematic
  | kbdEnableScanning
  | kbdDisable
  | kbdDefault
  | kbdAnyOther (b : Byte)
  | kbdParameterByte (b : Byte)
  -- format OP (R108)
  | crc16Init
  | crc16Bit
  | crc16Byte (b : Byte)
  | crc16Block (data : List Byte)
  | crc16Check (f : Frame)
  | crc16Append (h : Six)
  | frameRxbyte (b : Byte)
  | frameTake
  | frameTimeout
  | frameDecode (f : Frame)
  | dispatch
  | frameEncode (status backend caps : Byte)
  | frameEmit
  | spiExchange (b : Byte)
  | respCompose (status : Byte)
  | respRepeat
  | ps2Sample (ch : Chan)
  | ps2Take (ch : Chan)
  | ps2Enqueue (ch : Chan) (b : Byte)
  | ps2Rxframe (ch : Chan) (w : BitVec 11)
  | ps2Txframe (ch : Chan)
  | kbdHostbyte
  | kbdKeyseq (code : Byte) (pressed : Bool)
  | recRead
  | recWrite (v : Byte)
  | recUpdate (mask bits : Byte) (force : Bool)
  | recInit
deriving DecidableEq, Repr

end Sys2Proof
end

