-- ==== Sys2Proof/Machine/Bits.lean ====
section
/-! DEFINITION. Bit-field, byte-order, sign and parity helpers (00_scope.md R10), the byte view of a frame, and the PS/2 wire
format (30_encoding.md R93). -/

namespace Sys2Proof

/-- `be16(w) = [w[15:8], w[7:0]]`: the high byte (R10, R62). -/
def hiByte (w : Word) : Byte := w.extractLsb' 8 8

/-- The low byte of `be16(w)` (R10, R62). -/
def loByte (w : Word) : Byte := w.extractLsb' 0 8

/-- `merge16(hi, lo) = hi ++ lo` (R10). -/
def merge16 (hi lo : Byte) : Word := hi ++ lo

/-- `zext_16(b)` (R10). -/
def zext16 (b : Byte) : Word := b.setWidth 16

/-- `sext_8(v)` as a mathematical integer (R10). -/
def sext8 (v : Byte) : Int := v.toInt

/-- `sext_16(v)` as a mathematical integer (R10). -/
def sext16 (v : Word) : Int := v.toInt

/-- `popcount(v)`, the number of 1 bits (R10). -/
def popcount (v : Byte) : Nat :=
  (v.getLsbD 0).toNat + (v.getLsbD 1).toNat + (v.getLsbD 2).toNat + (v.getLsbD 3).toNat +
  (v.getLsbD 4).toNat + (v.getLsbD 5).toNat + (v.getLsbD 6).toNat + (v.getLsbD 7).toNat

/-- `v` with bit `i` made `d`, as the receiver writes `rx_shift[i] <- d` (44_ps2_transceiver.md R239). -/
def setBit (v : Byte) (i : Nat) (d : Bool) : Byte :=
  if d then v ||| (1#8 <<< i) else v &&& ~~~(1#8 <<< i)

/-- The parity bit `P` of a byte: `P = 1` exactly when `popcount(d)` is even (R93, R12 "odd parity"). -/
def parityBit (d : Byte) : Bool :=
  !(d.getLsbD 0 ^^ d.getLsbD 1 ^^ d.getLsbD 2 ^^ d.getLsbD 3 ^^ d.getLsbD 4 ^^ d.getLsbD 5 ^^ d.getLsbD 6 ^^ d.getLsbD 7)

/-- `wire(d)`, the 11-slot wire frame of R93.  Bit `k` of the result is wire slot `k`: slot 0 the start bit 0, slots 1 to 8
the data bits least significant first, slot 9 the odd parity bit, slot 10 the stop bit 1. -/
def wire (d : Byte) : BitVec 11 := 1#1 ++ BitVec.ofBool (parityBit d) ++ d ++ 0#1

/-- The byte in the eight data slots of a wire frame (R93). -/
def wireData (w : BitVec 11) : Byte := w.extractLsb' 1 8

/-- The eight bytes, index 0 first (R60). -/
def Frame.toList (f : Frame) : List Byte := [f.b0, f.b1, f.b2, f.b3, f.b4, f.b5, f.b6, f.b7]

/-- Byte `k` of a frame for `k` in 0..7 (R10). -/
def Frame.get (f : Frame) (k : Nat) : Byte := f.toList.getD k 0#8

/-- The frame with byte `k` replaced, `k` in 0..7 (R11 `x[i] <- v`); no other byte exists. -/
def Frame.set (f : Frame) (k : Nat) (b : Byte) : Frame :=
  match k with
  | 0 => { f with b0 := b }
  | 1 => { f with b1 := b }
  | 2 => { f with b2 := b }
  | 3 => { f with b3 := b }
  | 4 => { f with b4 := b }
  | 5 => { f with b5 := b }
  | 6 => { f with b6 := b }
  | 7 => { f with b7 := b }
  | _ => f

/-- The bytes `v` written at indices `i`, `i+1`, … (R60). -/
def Frame.write (f : Frame) (i : Nat) : List Byte → Frame
  | [] => f
  | b :: bs => (f.set i b).write (i + 1) bs

/-- The first six bytes, which the CRC covers (R7). -/
def Frame.six (f : Frame) : Six := ⟨f.b0, f.b1, f.b2, f.b3, f.b4, f.b5⟩

/-- The six bytes, index 0 first. -/
def Six.toList (h : Six) : List Byte := [h.b0, h.b1, h.b2, h.b3, h.b4, h.b5]

/-- The frame of a 64-bit number as R90 numbers it: byte 0 is bits 63..56 (log entry 11). -/
def Frame.ofNat64 (w : Nat) : Frame :=
  ⟨BitVec.ofNat 8 (w >>> 56), BitVec.ofNat 8 (w >>> 48), BitVec.ofNat 8 (w >>> 40), BitVec.ofNat 8 (w >>> 32),
    BitVec.ofNat 8 (w >>> 24), BitVec.ofNat 8 (w >>> 16), BitVec.ofNat 8 (w >>> 8), BitVec.ofNat 8 w⟩

/-- Byte by byte, the new byte where the mask's bit is 1 and the old one where it is 0 (46_storage_record.md R318: "any
mixture of old and new bytes"). -/
def Frame.mix (mask : Byte) (old new : Frame) : Frame :=
  ⟨if mask.getLsbD 0 then new.b0 else old.b0, if mask.getLsbD 1 then new.b1 else old.b1,
    if mask.getLsbD 2 then new.b2 else old.b2, if mask.getLsbD 3 then new.b3 else old.b3,
    if mask.getLsbD 4 then new.b4 else old.b4, if mask.getLsbD 5 then new.b5 else old.b5,
    if mask.getLsbD 6 then new.b6 else old.b6, if mask.getLsbD 7 then new.b7 else old.b7⟩

end Sys2Proof
end

