-- ==== Sys2Proof/Machine/Crc.lean ====
section
/-! DEFINITION. The CRC16 algorithm as pure functions (40_crc16.md R130 to R137): seed 0xFFFF, reflected polynomial 0xA001,
least significant bit first, over six bytes, stored high byte first.  It is not the CCITT polynomial (90_conflicts.md C1). -/

namespace Sys2Proof

/-- `CRC_SEED` (R7). -/
def crcSeed : Word := 0xFFFF#16

/-- `CRC_POLY`, reflected form (R7). -/
def crcPoly : Word := 0xA001#16

/-- `CRC16.BIT` (R132): one shift step. -/
def crcBit (c : Word) : Word := if c.getLsbD 0 then (c >>> 1) ^^^ crcPoly else c >>> 1

/-- `CRC16.BYTE` (R133): the byte enters the low eight bits, then eight shift steps. -/
def crcByte (c : Word) (b : Byte) : Word :=
  crcBit (crcBit (crcBit (crcBit (crcBit (crcBit (crcBit (crcBit (c ^^^ zext16 b))))))))

/-- `CRC16.BLOCK` (R134): from the seed, one byte at a time, index 0 first. -/
def crcBlock (data : List Byte) : Word := data.foldl crcByte crcSeed

/-- The CRC of the six bytes that a unit's CRC covers. -/
def crcSix (h : Six) : Word := crcBlock h.toList

/-- `CRC16.CHECK` (R135): the stored CRC, high byte first, equals the computed one. -/
def crcCheck (f : Frame) : Bool := crcSix f.six == merge16 f.b6 f.b7

/-- `CRC16.APPEND` (R136): `h ++ be16(c)`. -/
def crcAppend (h : Six) : Frame :=
  ⟨h.b0, h.b1, h.b2, h.b3, h.b4, h.b5, hiByte (crcSix h), loByte (crcSix h)⟩

end Sys2Proof
end

