-- ==== Sys2Proof/WellFormed.lean ====
section
/-! DEFINITION. Which syntax is well formed under given parameters: the conditions that a row of spec/opcode_table.json puts on
its operands.  Every other row takes every value of its operands. -/

namespace Sys2Proof

/-- The nine host bytes that have a name (30_encoding.md R107). -/
def namedHostBytes : List Byte := [0xFF#8, 0xFE#8, 0xEE#8, 0xF2#8, 0xED#8, 0xF3#8, 0xF4#8, 0xF5#8, 0xF6#8]

/-- The statuses that `RESP.COMPOSE` takes: one of four, "never 0" (43_response.md R218). -/
def Params.composable (p : Params) : List Byte := [p.stOk, p.stCrcError, p.stTimeoutError, p.stInvalidError]

/-- The operand checks of the table's rows. -/
def Instr.wf (p : Params) : Instr → Bool
  | .unrecognisedCommand _ cmd _ _ _ _ => !p.commandCodes.contains cmd
  | .crcMismatch f => !crcCheck f
  | .kbdAnyOther b => !namedHostBytes.contains b
  | .respCompose status => p.composable.contains status
  | _ => true

end Sys2Proof
end

