-- ==== Sys2Proof/Decode.lean ====
section
/-! DEFINITION. Decoding, total on any bytes, and the encoder beside it, both written from the formats of 30_encoding.md.  Two
places carry encoded rows: the eight bytes of a request frame (format REQ, R90, R96, R106) and one byte from the target on the
keyboard channel (format KCMD, R94, R107).  The `OP` rows have no bit pattern (R108), so they have no encoding. -/

namespace Sys2Proof

/-- Where the bytes stand: a complete request unit, or a byte received on the keyboard channel while a parameter byte is or
is not awaited (`kbd_pend`, R116). -/
inductive Source where
  | request
  | keyboard (pending : Bool)
deriving DecidableEq, Repr

/-- What is not an encoding at all: a request unit is eight bytes and a host command is one (R116). -/
inductive DecodeError where
  | notEightBytes (n : Nat)
  | notOneByte (n : Nat)
deriving DecidableEq, Repr

/-- `FRAME.DECODE(f)` (41_frame_codec.md R155): what the request latch receives. -/
def decodeRequest (p : Params) (f : Frame) : Req :=
  if crcCheck f then .ok (f.b0 == p.requestMagic) f.b1 f.b2 f.b3 f.b4 f.b5 else .crcErr

/-- The row of a frame that passed the CRC check, selected by its command byte (R96, 42_commands.md R180). -/
def decodeCommand (p : Params) (m cmd p0 p1 p2 p3 : Byte) : Instr :=
  if cmd = p.cmdPing then .ping m p0 p1 p2 p3
  else if cmd = p.cmdSetKeyboardBackend then .setKeyboardBackend m p0 p1 p2 p3
  else if cmd = p.cmdSetMouseBackend then .setMouseBackend m p0 p1 p2 p3
  else if cmd = p.cmdSetUsbConnected then .setUsbConnected m p0 p1 p2 p3
  else if cmd = p.cmdClearAll then .clearAll m p0 p1 p2 p3
  else if cmd = p.cmdKeyEvent then .keyEvent m p0 p1 p2 p3
  else if cmd = p.cmdMouseButtonEvent then .mouseButtonEvent m p0 p1 p2 p3
  else if cmd = p.cmdMouseAbsoluteMove then .mouseAbsoluteMove m p0 p1 p2 p3
  else if cmd = p.cmdMouseRelativeMove then .mouseRelativeMove m p0 p1 p2 p3
  else if cmd = p.cmdMouseWheel then .mouseWheel m p0 p1 p2 p3
  else if cmd = p.cmdRepeatLast then .repeatLast m p0 p1 p2 p3
  else .unrecognisedCommand m cmd p0 p1 p2 p3

/-- The `REQ` row of eight bytes: a CRC mismatch makes the frame illegal as a whole and no field is interpreted (R110). -/
def decodeFrame (p : Params) (f : Frame) : Instr :=
  if crcCheck f then decodeCommand p f.b0 f.b1 f.b2 f.b3 f.b4 f.b5 else .crcMismatch f

/-- The `KCMD` row of a byte (R107; the parameter test comes first, 45_ps2_keyboard_commands.md R280).  The map is total. -/
def decodeHostByte (pending : Bool) (b : Byte) : Instr :=
  if pending then .kbdParameterByte b
  else if b = 0xFF#8 then .kbdReset
  else if b = 0xFE#8 then .kbdResend
  else if b = 0xEE#8 then .kbdEcho
  else if b = 0xF2#8 then .kbdIdentify
  else if b = 0xED#8 then .kbdSetLeds
  else if b = 0xF3#8 then .kbdSetTypematic
  else if b = 0xF4#8 then .kbdEnableScanning
  else if b = 0xF5#8 then .kbdDisable
  else if b = 0xF6#8 then .kbdDefault
  else .kbdAnyOther b

/-- The decoder: any bytes at either place give a row or a rejection by name. -/
def decode (p : Params) : Source → List Byte → Except DecodeError Instr
  | .request, [b0, b1, b2, b3, b4, b5, b6, b7] => .ok (decodeFrame p ⟨b0, b1, b2, b3, b4, b5, b6, b7⟩)
  | .request, bs => .error (.notEightBytes bs.length)
  | .keyboard pending, [b] => .ok (decodeHostByte pending b)
  | .keyboard _, bs => .error (.notOneByte bs.length)

/-- The request frame with the given magic byte, command byte and payload: `CRC16.APPEND` of the first six bytes (R90). -/
def requestFrame (m cmd p0 p1 p2 p3 : Byte) : Frame := crcAppend ⟨m, cmd, p0, p1, p2, p3⟩

/-- The frame of a `REQ` row (R96 gives the operand places; the byte a command ignores keeps its place). -/
def Instr.frame? (p : Params) : Instr → Option Frame
  | .ping m x0 x1 x2 x3 => some (requestFrame m p.cmdPing x0 x1 x2 x3)
  | .repeatLast m x0 x1 x2 x3 => some (requestFrame m p.cmdRepeatLast x0 x1 x2 x3)
  | .setKeyboardBackend m bits x1 x2 x3 => some (requestFrame m p.cmdSetKeyboardBackend bits x1 x2 x3)
  | .setMouseBackend m bits x1 x2 x3 => some (requestFrame m p.cmdSetMouseBackend bits x1 x2 x3)
  | .setUsbConnected m flag x1 x2 x3 => some (requestFrame m p.cmdSetUsbConnected flag x1 x2 x3)
  | .clearAll m x0 x1 x2 x3 => some (requestFrame m p.cmdClearAll x0 x1 x2 x3)
  | .keyEvent m code pressed x2 x3 => some (requestFrame m p.cmdKeyEvent code pressed x2 x3)
  | .mouseAbsoluteMove m xHi xLo yHi yLo => some (requestFrame m p.cmdMouseAbsoluteMove xHi xLo yHi yLo)
  | .mouseButtonEvent m mask0 mask1 x2 x3 => some (requestFrame m p.cmdMouseButtonEvent mask0 mask1 x2 x3)
  | .mouseWheel m x0 dy x2 x3 => some (requestFrame m p.cmdMouseWheel x0 dy x2 x3)
  | .mouseRelativeMove m dx dy x2 x3 => some (requestFrame m p.cmdMouseRelativeMove dx dy x2 x3)
  | .unrecognisedCommand m cmd x0 x1 x2 x3 => some (requestFrame m cmd x0 x1 x2 x3)
  | .crcMismatch f => some f
  | _ => none

/-- The byte of a `KCMD` row (R107). -/
def Instr.hostByte? : Instr → Option Byte
  | .kbdReset => some 0xFF#8
  | .kbdResend => some 0xFE#8
  | .kbdEcho => some 0xEE#8
  | .kbdIdentify => some 0xF2#8
  | .kbdSetLeds => some 0xED#8
  | .kbdSetTypematic => some 0xF3#8
  | .kbdEnableScanning => some 0xF4#8
  | .kbdDisable => some 0xF5#8
  | .kbdDefault => some 0xF6#8
  | .kbdAnyOther b => some b
  | .kbdParameterByte b => some b
  | _ => none

/-- The place a `KCMD` row is read at: only a parameter byte is read while `kbd_pend` is set (R280). -/
def Instr.awaited : Instr → Bool
  | .kbdParameterByte _ => true
  | _ => false

/-- The place an encoded row is read at, and none for the `OP` rows. -/
def Instr.source? (p : Params) (i : Instr) : Option Source :=
  if (i.frame? p).isSome then some .request
  else if i.hostByte?.isSome then some (.keyboard i.awaited)
  else none

/-- The encoder: the bytes of a row, and none for the `OP` rows, which no bit pattern selects (R108). -/
def encode (p : Params) (i : Instr) : Option (List Byte) :=
  match i.frame? p with
  | some f => some f.toList
  | none => i.hostByte?.map (fun b => [b])

/-- The row of the opcode table that the bits `w` are, numbered as spec/opcode_table.json numbers them: 64 bits are a request
frame with byte 0 in bits 63..56 (R90), 8 bits a host byte with no parameter awaited.  Under `P_REF` (log entries 1, 11). -/
def decodeTableWord (nbits w : Nat) : Option Instr :=
  if nbits = 64 then (decode pRef .request (Frame.ofNat64 w).toList).toOption
  else if nbits = 8 then (decode pRef (.keyboard false) [BitVec.ofNat 8 w]).toOption
  else none

end Sys2Proof
end

