-- ==== Sys2Proof/Machine/State.lean ====
section
/-! DEFINITION. The state of the machine as plain data: every register, sequencing state, flag, queue and environment input of
10_state.md, and the model's own fields that let one deterministic step stand for the interleaving of the agents. -/

namespace Sys2Proof.Machine

/-- The three byte spaces of the block (20_memory.md R60). -/
inductive Space where
  | rxbuf
  | resp
  | nv
deriving DecidableEq, Repr

/-- Why the machine stops with a fault. -/
inductive Fault where
  /-- An access to cells that do not exist: "An access with `i+n > 8` does not exist: no rule makes one and a model must
  refuse it" (R60).  Raised by `memRead` and `memWrite` only; no instruction makes such an access.  Safe. -/
  | noSuchCell (space : Space) (index len : Nat)
deriving DecidableEq, Repr

/-- Why the machine has no meaning for what it is asked to do. -/
inductive Refusal where
  /-- An instruction without a meaning yet; no arm of this model answers so.  Safe. -/
  | notModelled (mnemonic : String)
  /-- The schedule names a row that no agent takes as a step of its own (a row selected by an encoding, or one that is a part
  of another operation).  Raised by `step` for such a schedule entry, never by `exec`.  Safe: no agent takes such a step. -/
  | notAnEvent
deriving DecidableEq, Repr

/-- The dispatcher's cycle (10_state.md R28). -/
inductive Disp where
  | idle
  | dispatching
  | responding
deriving DecidableEq, Repr

/-- Receive states of a PS/2 channel, one per wire slot beside `Idle` (44_ps2_transceiver.md R236). -/
inductive RxFsm where
  | idle
  | startBit
  | dataBits (i : Fin 8)
  | parity
  | stopBit
deriving DecidableEq, Repr

/-- The two phases of a transmitted slot (R28). -/
inductive Phase where
  | setup
  | low
deriving DecidableEq, Repr

/-- Transmit states of a PS/2 channel (R28, R245 to R248). -/
inductive TxFsm where
  | txIdle
  | txSlot (k : Fin 11) (ph : Phase)
deriving DecidableEq, Repr

/-- Which command the awaited parameter byte belongs to; `kbd_pend` is an option of this (R28). -/
inductive Pending where
  | ledParam
  | typematicParam
deriving DecidableEq, Repr

/-- One PS/2 channel (R25, R26, R28, R30, R31, R36).  The channels have separate copies of all of it (R258). -/
structure Channel where
  rxFsm : RxFsm
  rxShift : Byte
  rxPar : Bool
  rxLatch : Option Byte
  txFsm : TxFsm
  txByte : Byte
  txq : List Byte
  clkPull : Bool
  datPull : Bool
  clkPrev : Bool
  rxErr : Bool
  rxOverrun : Bool
  txqOverflow : Bool
  txCollision : Bool
deriving DecidableEq, Repr

/-- `{caps, num, scroll}` (R39). -/
structure Leds where
  caps : Bool
  num : Bool
  scroll : Bool
deriving DecidableEq, Repr

/-- What a PS/2 target does to the two lines of its channel: true means it pulls the line low (44_ps2_transceiver.md R231). -/
structure Pulls where
  clk : Bool
  dat : Bool
deriving DecidableEq, Repr

/-- The environment inputs of R39, as they stand at the present step. -/
structure Env where
  kbdKind : DriverKind
  mouseKind : DriverKind
  kbdBackend : Byte
  mouseBackend : Byte
  kbdOffline : Bool
  mouseOffline : Bool
  leds : Leds
  vbusConnected : Bool
  kbdPulls : Pulls
  mousePulls : Pulls
  timeoutElapsed : Bool
deriving DecidableEq, Repr

/-- One decoded button pair (30_encoding.md R105). -/
structure ButtonState where
  select : Bool
  state : Bool
deriving DecidableEq, Repr

/-- The driver and board calls that the block makes (R11 `call`), with the arguments of 42_commands.md and
70_reset_and_hazards.md. -/
inductive Call where
  | kbdBegin
  | mouseBegin
  | kbdPeriodic
  | kbdClear
  | mouseClear
  | sendKey (code : Byte) (pressed : Bool)
  | sendButtons (left right middle wheelUp wheelDown : ButtonState)
  | sendMove (x y : Int)
  | sendRelative (dx dy : Int)
  | sendWheel (delta : Int)
  | setVbusConnected (flag : Bool)
deriving DecidableEq, Repr

/-- What the block puts out at its interfaces (41_frame_codec.md R150, 44_ps2_transceiver.md R257). -/
inductive Output where
  | call (c : Call)
  | txFrame (f : Frame)
  | spiOut (b : Byte)
  | wireFrame (ch : Chan) (w : BitVec 11)
deriving DecidableEq, Repr

/-- The value that an operation returned, for the operations that return one (R134, R135, R136, R155, R159, R244, R312,
R316). -/
inductive Result where
  | none
  | word (w : Word)
  | bool (b : Bool)
  | byte (b : Byte)
  | frame (f : Frame)
  | req (r : Req)
  | outputs (o : Option Byte)
deriving DecidableEq, Repr

/-- Where `MAIN` stands: before its boot sequence, or at one of the places of the loop body (70_reset_and_hazards.md R371,
R373). -/
inductive LoopPos where
  | boot
  | periodic
  | timeout
  | take
  | dispatch
  | emit
  | ps2Kbd
  | ps2Mouse
deriving DecidableEq, Repr

/-- A change of an environment input that is not fixed at boot (R39). -/
inductive EnvChange where
  | kbdOffline (b : Bool)
  | mouseOffline (b : Bool)
  | leds (l : Leds)
  | vbusConnected (b : Bool)
  | pulls (ch : Chan) (p : Pulls)
  | timeoutElapsed (b : Bool)
deriving DecidableEq, Repr

/-- One entry of the schedule: which agent moves next (00_scope.md R6). -/
inductive Event where
  /-- `MAIN` takes the step of its loop position (R373). -/
  | main
  /-- The agent of operation `i` takes that step (R340; R373 lets `MAIN` take any enabled step at any time). -/
  | op (i : Instr)
  /-- An environment input changes. -/
  | env (c : EnvChange)
  /-- A physical restart (R370).  The mask says which bytes of a record write under way had landed (46_storage_record.md
  R318); it is read only when `NV_WRITE_ATOMIC` is false. -/
  | restart (landed : Byte)
deriving DecidableEq, Repr

/-- The whole machine.  `loop`, `result`, `out`, `draws`, `nvTorn` and `sched` are the model's own fields (log entries 4, 5,
6, 7); every other field is named by the spec. -/
structure State where
  /-- The build's parameters (R8), changed by no step. -/
  cfg : Params
  crc : Word
  rxBuf : Frame
  rxIdx : Nat
  req : Option Req
  disp : Disp
  lastResp : Frame
  lastValid : Bool
  spiOut : Frame
  spiOidx : Fin 8
  nv : Frame
  resetRequired : Bool
  rxOverrunFrame : Bool
  kbdPend : Option Pending
  kbd : Channel
  mouse : Channel
  env : Env
  loop : LoopPos
  result : Result
  /-- Everything put out so far, oldest first. -/
  out : List Output
  /-- How many free frames have been drawn. -/
  draws : Nat
  /-- The record as it was before the write that may still be torn, when writes are not atomic. -/
  nvTorn : Option Frame
  /-- The choices of the environment and of the interleaving still to come, oldest first. -/
  sched : List Event
deriving DecidableEq, Repr

/-- Eight zero bytes, the value this model gives a buffer whose reset content the spec leaves unspecified (log entry 2). -/
def zeroFrame : Frame := ⟨0#8, 0#8, 0#8, 0#8, 0#8, 0#8, 0#8, 0#8⟩

/-- The content this model gives a storage device that was never written (log entry 2): all bytes 0xFF. -/
def erasedFrame : Frame := ⟨0xFF#8, 0xFF#8, 0xFF#8, 0xFF#8, 0xFF#8, 0xFF#8, 0xFF#8, 0xFF#8⟩

/-- A PS/2 channel after reset (R40). -/
def Channel.reset : Channel where
  rxFsm := .idle
  rxShift := 0#8
  rxPar := false
  rxLatch := none
  txFsm := .txIdle
  txByte := 0#8
  txq := []
  clkPull := false
  datPull := false
  clkPrev := true
  rxErr := false
  rxOverrun := false
  txqOverflow := false
  txCollision := false

/-- The environment as the model starts it (log entry 2): no driver yet, everything off and released. -/
def Env.reset : Env where
  kbdKind := .dummy
  mouseKind := .dummy
  kbdBackend := 0#8
  mouseBackend := 0#8
  kbdOffline := false
  mouseOffline := false
  leds := ⟨false, false, false⟩
  vbusConnected := false
  kbdPulls := ⟨false, false⟩
  mousePulls := ⟨false, false⟩
  timeoutElapsed := false

/-- The state after reset and before the boot sequence (R40), for a build and a storage content. -/
def State.resetWith (p : Params) (nv : Frame) : State where
  cfg := p
  crc := 0#16
  rxBuf := zeroFrame
  rxIdx := 0
  req := none
  disp := .idle
  lastResp := zeroFrame
  lastValid := false
  spiOut := zeroFrame
  spiOidx := 0
  nv := nv
  resetRequired := false
  rxOverrunFrame := false
  kbdPend := none
  kbd := Channel.reset
  mouse := Channel.reset
  env := Env.reset
  loop := .boot
  result := .none
  out := []
  draws := 0
  nvTorn := none
  sched := []

/-- The machine right after reset, run on `P_REF` with a storage device never written (log entries 1, 2). -/
def State.reset : State := State.resetWith pRef erasedFrame

end Sys2Proof.Machine
end

