-- ==== Sys2Proof/Machine/Operands.lean ====
section
/-! DEFINITION. Operand assembly: what each command makes of its payload bytes (30_encoding.md R98 to R105), and what each PS/2
operation makes of the lines and of a wire frame (44_ps2_transceiver.md R231, R249). -/

namespace Sys2Proof.Machine

/-- `pressed = (p[1] != 0)` (R99). -/
def pressedOf (p1 : Byte) : Bool := p1 != 0#8

/-- `flag = (p[0] != 0)` (R100). -/
def flagOf (p0 : Byte) : Bool := p0 != 0#8

/-- An absolute coordinate: the two halves merged big-endian and read as two's complement (R102). -/
def coordinateOf (hi lo : Byte) : Int := sext16 (merge16 hi lo)

/-- A relative delta (R103). -/
def deltaOf (p : Byte) : Int := sext8 p

/-- The wheel delta (R104). -/
def wheelOf (p1 : Byte) : Int := sext8 p1

/-- One button's pair, from the payload byte and the masks that the parameters name (R105). -/
def buttonOf (b : ButtonPair) (p0 p1 : Byte) : ButtonState :=
  let p := if b.inByte1 then p1 else p0
  ⟨p &&& b.select != 0#8, p &&& b.state != 0#8⟩

/-- The `send_buttons` call of a `mouse_button_event` (R105, 42_commands.md R187). -/
def buttonsCall (c : Params) (p0 p1 : Byte) : Call :=
  .sendButtons (buttonOf c.btnLeft p0 p1) (buttonOf c.btnRight p0 p1) (buttonOf c.btnMiddle p0 p1)
    (buttonOf c.btnWheelUp p0 p1) (buttonOf c.btnWheelDown p0 p1)

/-- The state of one channel. -/
def State.chan (s : State) : Chan → Channel
  | .kbd => s.kbd
  | .mouse => s.mouse

/-- The machine with one channel's state replaced; the other channel keeps its own (R258). -/
def State.setChan (s : State) (ch : Chan) (c : Channel) : State :=
  match ch with
  | .kbd => { s with kbd := c }
  | .mouse => { s with mouse := c }

/-- What the target of a channel pulls (R231). -/
def Env.pulls (e : Env) : Chan → Pulls
  | .kbd => e.kbdPulls
  | .mouse => e.mousePulls

/-- `env.clk_line[ch]`: high exactly when neither the block nor the target pulls the clock low (R231). -/
def State.clkLine (s : State) (ch : Chan) : Bool := !((s.chan ch).clkPull || (s.env.pulls ch).clk)

/-- `env.dat_line[ch]`, likewise (R231). -/
def State.datLine (s : State) (ch : Chan) : Bool := !((s.chan ch).datPull || (s.env.pulls ch).dat)

/-- A falling clock edge: the previous sample was high and this one is low (R237). -/
def Channel.fall (c : Channel) (clk : Bool) : Bool := c.clkPrev && !clk

/-- `collision(c, d)`: a line that the block has released reads low (R249). -/
def Channel.collision (c : Channel) (clk dat : Bool) : Bool := (!c.clkPull && !clk) || (!c.datPull && !dat)

/-- `PS2_SCANCODE(code)` (45_ps2_keyboard_commands.md R295). -/
def scancodeOf (c : Params) (code : Byte) : Option Byte := c.ps2Scancode.lookup code

/-- `PS2_SPECIAL_SEQ(code, pressed)` (R296); a sequence that the table does not list is empty. -/
def specialSeqOf (c : Params) (code : Byte) (pressed : Bool) : List Byte := (c.ps2SpecialSeq.lookup (code, pressed)).getD []

/-- The bytes that a key event puts on the keyboard queue: format `KSEQ` (30_encoding.md R95, R294), the special sequence of
R296 for a special key, and nothing for a key without a table entry. -/
def keySequence (c : Params) (code : Byte) (pressed : Bool) : List Byte :=
  if c.ps2Special.contains code then specialSeqOf c code pressed
  else
    match scancodeOf c code with
    | none => []
    | some sc => (if c.ps2Extended.contains code then [0xE0#8] else []) ++ (if pressed then [] else [0xF0#8]) ++ [sc]

end Sys2Proof.Machine
end

