-- ==== Sys2Proof/Machine/Flags.lean ====
section
/-! DEFINITION. The flags: the three bytes of a response that report status (43_response.md R212 to R214), and the conditions
that enable a channel (44_ps2_transceiver.md R233).  The bytes are composed on demand and stored only in `last_resp`
(10_state.md section 4). -/

namespace Sys2Proof.Machine

/-- The mask when the condition holds, and no bit otherwise. -/
def bitIf (cond : Bool) (mask : Byte) : Byte := if cond then mask else 0#8

/-- `STATUS_BYTE(status)` (R212): an error status is bare; an OK status carries the bit field, whose offline and LED bits are
populated only if the respective driver is not Dummy. -/
def statusByte (s : State) (status : Byte) : Byte :=
  if status = s.cfg.stOk then
    s.cfg.stOk ||| bitIf s.resetRequired s.cfg.stResetRequired
      ||| bitIf (s.env.kbdKind != .dummy && s.env.kbdOffline) s.cfg.stKbdOffline
      ||| bitIf (s.env.kbdKind != .dummy && s.env.leds.caps) s.cfg.stLedCaps
      ||| bitIf (s.env.kbdKind != .dummy && s.env.leds.num) s.cfg.stLedNum
      ||| bitIf (s.env.kbdKind != .dummy && s.env.leds.scroll) s.cfg.stLedScroll
      ||| bitIf (s.env.mouseKind != .dummy && s.env.mouseOffline) s.cfg.stMouseOffline
  else status

/-- `BACKEND_BYTE()` (R213): the active selections, not those of the record. -/
def backendByte (s : State) : Byte :=
  (s.env.kbdBackend &&& s.cfg.bkKbdMask) ||| (s.env.mouseBackend &&& s.cfg.bkMouseMask)
    ||| bitIf s.cfg.dynamicSupported s.cfg.bkDynamic

/-- `CAPS_BYTE()` (R214). -/
def capsByte (s : State) : Byte :=
  bitIf s.cfg.hasUsb s.cfg.capHasUsb ||| bitIf s.cfg.hasUsbCompat s.cfg.capHasUsbCompat
    ||| bitIf s.cfg.hasPs2 s.cfg.capHasPs2 ||| bitIf s.cfg.vbusConnectable s.cfg.capVbusConnectable
    ||| bitIf (s.cfg.vbusConnectable && s.env.vbusConnected) s.cfg.capVbusConnected

/-- A channel is serviced only while its PS/2 backend is the active one (R233). -/
def State.serviced (s : State) : Chan → Bool
  | .kbd => s.env.kbdKind == .ps2Keyboard
  | .mouse => s.env.mouseKind == .ps2Mouse

end Sys2Proof.Machine
end

