-- ==== Sys2Proof/Machine/Ops.lean ====
section
/-! DEFINITION. The named operations that the meanings share: access to the byte spaces (20_memory.md R60), the CRC engine's
register, calls to drivers, enqueueing, composing and repeating a response, and the entry to and return from the outcome of a
request (60_exceptions.md R346, R347). -/

namespace Sys2Proof.Machine

/-- The outcome of one instruction. -/
abbrev Step := Host.Outcome State Fault Refusal

/-- The next state changed by `f`, where there is one. -/
def mapNext (f : State → State) : Step → Step
  | .next s => .next (f s)
  | .fault e => .fault e
  | .refused r => .refused r

/-- The unit that a byte space holds: `RXBUF` is `rx_buf`, `RESP` is `last_resp`, `NV` is `nv` (R60). -/
def State.unit (s : State) : Space → Frame
  | .rxbuf => s.rxBuf
  | .resp => s.lastResp
  | .nv => s.nv

/-- The machine with the unit of a byte space replaced. -/
def State.setUnit (s : State) (sp : Space) (f : Frame) : State :=
  match sp with
  | .rxbuf => { s with rxBuf := f }
  | .resp => { s with lastResp := f }
  | .nv => { s with nv := f }

/-- `MemRead(space, i, n)`: the bytes at indices `i` to `i+n-1`, index `i` first; cells beyond the eighth do not exist (R60). -/
def memRead (s : State) (sp : Space) (i n : Nat) : Except Fault (List Byte) :=
  if i + n ≤ 8 then .ok (((s.unit sp).toList.drop i).take n) else .error (.noSuchCell sp i n)

/-- `MemWrite(space, i, n, v)` with `n` the length of `v` (R60). -/
def memWrite (s : State) (sp : Space) (i : Nat) (v : List Byte) : Except Fault State :=
  if i + v.length ≤ 8 then .ok (s.setUnit sp ((s.unit sp).write i v)) else .error (.noSuchCell sp i v.length)

/-- The CRC engine run over the six bytes of a unit: the register is left at the result (40_crc16.md R134, R20). -/
def State.runCrc (s : State) (h : Six) : State := { s with crc := crcSix h }

/-- `call drv.f(args)` (R11). -/
def State.call (s : State) (c : Call) : State := { s with out := s.out ++ [.call c] }

/-- One byte offered to a channel's transmit queue (44_ps2_transceiver.md R251). -/
def Channel.enqueue (depth : Nat) (c : Channel) (b : Byte) : Channel :=
  if c.txq.length < depth then { c with txq := c.txq ++ [b] } else { c with txqOverflow := true }

/-- `PS2.ENQUEUE(ch, b)` (R251). -/
def State.enqueue (s : State) (ch : Chan) (b : Byte) : State :=
  s.setChan ch ((s.chan ch).enqueue s.cfg.ps2TxqDepth b)

/-- Several bytes enqueued in the order written (45_ps2_keyboard_commands.md R293). -/
def State.enqueueAll (s : State) (ch : Chan) (bs : List Byte) : State := bs.foldl (fun s b => s.enqueue ch b) s

/-- `FRAME.ENCODE(status, backend, caps)` (41_frame_codec.md R159). -/
def responseSix (p : Params) (status backend caps : Byte) : Six := ⟨p.responseMagic, status, backend, caps, 0#8, 0#8⟩

/-- `RESP.COMPOSE(status)` for a status that is not 0 (43_response.md R218). -/
def State.compose (s : State) (status : Byte) : State :=
  let h := responseSix s.cfg (statusByte s status) (backendByte s) (capsByte s)
  { s with crc := crcSix h, lastResp := crcAppend h, lastValid := true }

/-- `RESP.REPEAT` (R219): nothing is written. -/
def State.repeatResponse (s : State) : State := s

/-- The status handed to the composer: 0 is the request to repeat (30_encoding.md R118, 41_frame_codec.md R157). -/
def State.respond (s : State) (status : Byte) : State := if status = 0#8 then s.repeatResponse else s.compose status

/-- ENTRY to the outcome of a request, error or not: the tail of `DISPATCH` (R157, R346).  No state is saved; the response is
composed (or the old one kept), the latch is emptied and control goes to `FRAME.EMIT`. -/
def State.enterOutcome (s : State) (status : Byte) : State := { s.respond status with req := none, disp := .responding }

/-- RETURN from the outcome of a request: `FRAME.EMIT` sets `disp` to `Idle`, and nothing is restored (R347). -/
def State.leaveOutcome (s : State) : State := { s with disp := .idle }

/-- The answer to a request that passed the CRC check: under `MAGIC_POLICY = invalid` a wrong magic byte is answered
`INVALID_ERROR` before the command code is looked at (30_encoding.md R111, 60_exceptions.md R343); otherwise the command's rule
runs first and the response is composed from the state it leaves (R157, R158). -/
def State.answer (s : State) (magicOk : Bool) (rule : State → State × Byte) : State :=
  if s.cfg.magicPolicy = .invalid ∧ magicOk = false then s.enterOutcome s.cfg.stInvalidError
  else (rule s).1.enterOutcome (rule s).2

/-- The frame that `FRAME.EMIT` sends when nothing has been composed since reset: eight free bytes, a fresh draw for each
emission (R220, log entry 3). -/
def freeFrame (n : Nat) : Frame :=
  ⟨Config.freeByte (8 * n), Config.freeByte (8 * n + 1), Config.freeByte (8 * n + 2), Config.freeByte (8 * n + 3),
    Config.freeByte (8 * n + 4), Config.freeByte (8 * n + 5), Config.freeByte (8 * n + 6), Config.freeByte (8 * n + 7)⟩

/-- The eight bytes to emit: the cache, or free bytes while the cache has never been filled (R160, R220). -/
def State.emission (s : State) : Frame := if s.lastValid then s.lastResp else freeFrame s.draws

/-- The number of draws after an emission. -/
def State.drawsAfter (s : State) : Nat := if s.lastValid then s.draws else s.draws + 1

/-- The context an instruction's agent runs in (60_exceptions.md R350). -/
inductive Context where
  | interrupt
  | main
deriving DecidableEq, Repr

/-- Interrupt context: `RXISR` and `PS2PHY[ch]`; main context: everything else (00_scope.md R6, R340, R350). -/
def contextOf : Instr → Context
  | .frameRxbyte _ => .interrupt
  | .spiExchange _ => .interrupt
  | .ps2Sample _ => .interrupt
  | .ps2Rxframe _ _ => .interrupt
  | .ps2Txframe _ => .interrupt
  | _ => .main

/-- The rows that are a step of an agent on their own (R6, R108, R340, R373).  A row selected by an encoding runs inside
`DISPATCH` or `KBD.HOSTBYTE`; a response is composed, and the record written, only inside another operation. -/
def isEvent : Instr → Bool
  | .crc16Init => true
  | .crc16Bit => true
  | .crc16Byte _ => true
  | .crc16Block _ => true
  | .crc16Check _ => true
  | .crc16Append _ => true
  | .frameRxbyte _ => true
  | .frameTake => true
  | .frameTimeout => true
  | .frameDecode _ => true
  | .dispatch => true
  | .frameEncode _ _ _ => true
  | .frameEmit => true
  | .spiExchange _ => true
  | .ps2Sample _ => true
  | .ps2Take _ => true
  | .ps2Enqueue _ _ => true
  | .ps2Rxframe _ _ => true
  | .ps2Txframe _ => true
  | .kbdHostbyte => true
  | .recRead => true
  | _ => false

/-- The channel that a step works for, where it works for one. -/
def channelOf : Instr → Option Chan
  | .ps2Sample ch => some ch
  | .ps2Take ch => some ch
  | .ps2Enqueue ch _ => some ch
  | .ps2Rxframe ch _ => some ch
  | .ps2Txframe ch => some ch
  | .kbdHostbyte => some .kbd
  | _ => none

/-- The step that an agent takes for a scheduled row: a byte taken on the keyboard channel "goes to `KBD.HOSTBYTE`"
(44_ps2_transceiver.md R244), which contains the taking (45_ps2_keyboard_commands.md R280). -/
def agentStep : Instr → Instr
  | .ps2Take .kbd => .kbdHostbyte
  | i => i

/-- An agent takes a step of its own at any time (R340, R373), but `MAIN` none before its boot sequence has ended (R371), and no
agent one for a channel that is not serviced: nothing is sampled, taken or queued there (44_ps2_transceiver.md R233). -/
def State.stepEnabled (s : State) (i : Instr) : Bool :=
  (s.loop != .boot || contextOf i == .interrupt) &&
  match channelOf i with
  | none => true
  | some ch => s.serviced ch

end Sys2Proof.Machine
end

