-- ==== Sys2Proof/Machine/CrcUnit.lean ====
section
/-! DEFINITION. The CRC operations (40_crc16.md section 2).  Every computation runs on the engine's register (10_state.md R20). -/

namespace Sys2Proof.Machine

/-- `CRC16.INIT` (R131). -/
def execCrc16Init (s : State) : Step := .next { s with crc := crcSeed }

/-- `CRC16.BIT` (R132). -/
def execCrc16Bit (s : State) : Step := .next { s with crc := crcBit s.crc }

/-- `CRC16.BYTE(b)` (R133). -/
def execCrc16Byte (b : Byte) (s : State) : Step := .next { s with crc := crcByte s.crc b }

/-- `CRC16.BLOCK(data)` (R134). -/
def execCrc16Block (data : List Byte) (s : State) : Step :=
  .next { s with crc := crcBlock data, result := .word (crcBlock data) }

/-- `CRC16.CHECK(f)` (R135). -/
def execCrc16Check (f : Frame) (s : State) : Step := .next { s.runCrc f.six with result := .bool (crcCheck f) }

/-- `CRC16.APPEND(h)` (R136). -/
def execCrc16Append (h : Six) (s : State) : Step := .next { s.runCrc h with result := .frame (crcAppend h) }

end Sys2Proof.Machine
end

