-- ==== Sys2Proof/Machine/Ps2.lean ====
section
/-! DEFINITION. The PS/2 byte transceiver (44_ps2_transceiver.md): the line-level machine as functions of one channel, and the
operations on it. -/

namespace Sys2Proof.Machine

/-- `RX_DELIVER(ch, b)` (R242). -/
def Channel.rxDeliver (c : Channel) (b : Byte) : Channel :=
  match c.rxLatch with
  | none => { c with rxLatch := some b }
  | some _ => { c with rxOverrun := true }

/-- `RX_FINISH(ch, stop)` (R241). -/
def Channel.rxFinish (c : Channel) (stop : Bool) : Channel :=
  if stop && (popcount c.rxShift + c.rxPar.toNat) % 2 == 1 then c.rxDeliver c.rxShift else { c with rxErr := true }

/-- `RX_STEP` (R238 to R243), by the receive state at the start of the step. -/
def Channel.rxStep (c : Channel) (clk dat : Bool) : Channel :=
  match c.rxFsm with
  | .idle => if c.fall clk && !dat then { c with rxFsm := .startBit } else c
  | .startBit => if c.fall clk then { c with rxShift := setBit c.rxShift 0 dat, rxFsm := .dataBits 0 } else c
  | .dataBits i =>
    if c.fall clk then
      if i.val < 7 then { c with rxShift := setBit c.rxShift (i.val + 1) dat, rxFsm := .dataBits (i + 1) }
      else { c with rxPar := dat, rxFsm := .parity }
    else c
  | .parity => if c.fall clk then { c.rxFinish dat with rxFsm := .stopBit } else c
  | .stopBit => if clk then { c with rxFsm := .idle } else c

/-- `TX_START` (R245): with both lines high, and the clock high at the previous sample too, the first queued byte starts. -/
def Channel.txStart (c : Channel) (clk dat : Bool) : Channel :=
  match c.txq with
  | [] => c
  | b :: q =>
    if clk && dat && c.clkPrev then
      { c with txq := q, txByte := b, txFsm := .txSlot 0 .setup, clkPull := false, datPull := true }
    else c

/-- `TX_ABORT` (R249): both lines released, the byte lost, the flag set. -/
def Channel.txAbort (c : Channel) : Channel :=
  { c with clkPull := false, datPull := false, txFsm := .txIdle, txCollision := true }

/-- `TX_STEP` (R246 to R249), by the transmit state at the start of the step. -/
def Channel.txStep (c : Channel) (clk dat : Bool) : Channel :=
  match c.txFsm with
  | .txIdle => c
  | .txSlot k ph =>
    if c.collision clk dat then c.txAbort
    else
      match ph with
      | .setup => { c with clkPull := true, txFsm := .txSlot k .low }
      | .low =>
        if k.val < 10 then
          { c with clkPull := false, datPull := !(wire c.txByte).getLsbD (k.val + 1), txFsm := .txSlot (k + 1) .setup }
        else { c with clkPull := false, datPull := false, txFsm := .txIdle }

/-- `PS2.SAMPLE` on one channel, for the line levels read at the start of the step (R237). -/
def Channel.sample (c : Channel) (clk dat : Bool) : Channel :=
  let c' :=
    if c.txFsm ≠ .txIdle then c.txStep clk dat
    else if (c.rxStep clk dat).rxFsm = .idle then (c.rxStep clk dat).txStart clk dat
    else c.rxStep clk dat
  { c' with clkPrev := clk }

/-- Nothing is under way on the channel's line level.  The byte-level steps stand in for samples (R257), so they run only where
no frame is half received or half sent: frames pass one at a time and in order (R234, R235, R253; log entry 18). -/
def Channel.atRest (c : Channel) : Bool := c.rxFsm == .idle && c.txFsm == .txIdle

/-- The byte-level receive step on one channel (R257). -/
def Channel.rxFrame (c : Channel) (w : BitVec 11) : Channel :=
  if w = wire (wireData w) then c.rxDeliver (wireData w)
  else if w.getLsbD 0 = false then { c with rxErr := true }
  else c

/-- The receive latch emptied (R244). -/
def Channel.emptyLatch (c : Channel) : Channel := { c with rxLatch := none }

/-- `PS2.SAMPLE(ch)` (R237), enabled while the channel is serviced (R233). -/
def execPs2Sample (ch : Chan) (s : State) : Step :=
  .next (if s.serviced ch then s.setChan ch ((s.chan ch).sample (s.clkLine ch) (s.datLine ch)) else s)

/-- `PS2.TAKE(ch)` (R244), enabled when the latch is full. -/
def execPs2Take (ch : Chan) (s : State) : Step :=
  .next (match (s.chan ch).rxLatch with
    | none => s
    | some b => { s.setChan ch (s.chan ch).emptyLatch with result := .byte b })

/-- `PS2.ENQUEUE(ch, b)` (R251), always enabled. -/
def execPs2Enqueue (ch : Chan) (b : Byte) (s : State) : Step := .next (s.enqueue ch b)

/-- `PS2.RXFRAME(ch, w)` (R257), on a serviced channel (R233) at rest. -/
def execPs2Rxframe (ch : Chan) (w : BitVec 11) (s : State) : Step :=
  .next (if s.serviced ch && (s.chan ch).atRest then s.setChan ch ((s.chan ch).rxFrame w) else s)

/-- `PS2.TXFRAME(ch)` (R257), on a serviced channel (R233) at rest, enabled when the queue is not empty. -/
def execPs2Txframe (ch : Chan) (s : State) : Step :=
  .next (if s.serviced ch && (s.chan ch).atRest then
      match (s.chan ch).txq with
      | [] => s
      | b :: q => { s.setChan ch { s.chan ch with txq := q } with out := s.out ++ [.wireFrame ch (wire b)] }
    else s)

end Sys2Proof.Machine
end

