-- ==== Sys2Proof/Machine/Keyboard.lean ====
section
/-! DEFINITION. The PS/2 logical layer of the keyboard channel: host commands and outbound key sequences
(45_ps2_keyboard_commands.md). -/

namespace Sys2Proof.Machine

/-- Reply bytes enqueued on the keyboard channel, in the order written (R293). -/
def State.kbdReply (s : State) (bs : List Byte) : State := s.enqueueAll .kbd bs

/-- `KBD.KEYSEQ(code, pressed)` (R294 to R296). -/
def State.keyseq (s : State) (code : Byte) (pressed : Bool) : State :=
  s.enqueueAll .kbd (keySequence s.cfg code pressed)

/-- `0xFF Reset` (R281). -/
def State.kbdReset (s : State) : State := s.kbdReply [0xFA#8, 0xAA#8]

/-- `0xFE Resend`: unsupported, nothing is sent (R282). -/
def State.kbdResend (s : State) : State := s

/-- `0xEE Echo` (R283). -/
def State.kbdEcho (s : State) : State := s.kbdReply [0xEE#8]

/-- `0xF2 Identify` (R284). -/
def State.kbdIdentify (s : State) : State := s.kbdReply [0xFA#8, 0xAB#8, 0x83#8]

/-- `0xED Set-LEDs` (R285): acknowledged at once; the parameter byte is awaited. -/
def State.kbdSetLeds (s : State) : State := { s.kbdReply [0xFA#8] with kbdPend := some .ledParam }

/-- `0xF3 Set-typematic` (R286). -/
def State.kbdSetTypematic (s : State) : State := { s.kbdReply [0xFA#8] with kbdPend := some .typematicParam }

/-- `0xF4 Enable scanning` (R287). -/
def State.kbdEnableScanning (s : State) : State := s.kbdReply [0xFA#8]

/-- `0xF5 Disable` (R290). -/
def State.kbdDisable (s : State) : State := s.kbdReply [0xFA#8]

/-- `0xF6 Default` (R291). -/
def State.kbdDefault (s : State) : State := s.kbdReply [0xFA#8]

/-- Any other byte (R292). -/
def State.kbdAnyOther (s : State) : State := s.kbdReply [0xFA#8]

/-- A parameter byte, whatever its value (R288, R289). -/
def State.kbdParameterByte (s : State) : State :=
  { s.kbdReply (if s.cfg.ps2AckParam then [0xFA#8] else []) with kbdPend := none }

/-- The rule of a received byte (R280): the parameter test first, then the nine named bytes, then any other. -/
def State.hostByte (s : State) (b : Byte) : State :=
  if s.kbdPend.isSome then s.kbdParameterByte
  else if b = 0xFF#8 then s.kbdReset
  else if b = 0xFE#8 then s.kbdResend
  else if b = 0xEE#8 then s.kbdEcho
  else if b = 0xF2#8 then s.kbdIdentify
  else if b = 0xED#8 then s.kbdSetLeds
  else if b = 0xF3#8 then s.kbdSetTypematic
  else if b = 0xF4#8 then s.kbdEnableScanning
  else if b = 0xF5#8 then s.kbdDisable
  else if b = 0xF6#8 then s.kbdDefault
  else s.kbdAnyOther

/-- Row `kbd_reset`. -/
def execKbdReset (s : State) : Step := .next s.kbdReset

/-- Row `kbd_resend`. -/
def execKbdResend (s : State) : Step := .next s.kbdResend

/-- Row `kbd_echo`. -/
def execKbdEcho (s : State) : Step := .next s.kbdEcho

/-- Row `kbd_identify`. -/
def execKbdIdentify (s : State) : Step := .next s.kbdIdentify

/-- Row `kbd_set_leds`. -/
def execKbdSetLeds (s : State) : Step := .next s.kbdSetLeds

/-- Row `kbd_set_typematic`. -/
def execKbdSetTypematic (s : State) : Step := .next s.kbdSetTypematic

/-- Row `kbd_enable_scanning`. -/
def execKbdEnableScanning (s : State) : Step := .next s.kbdEnableScanning

/-- Row `kbd_disable`. -/
def execKbdDisable (s : State) : Step := .next s.kbdDisable

/-- Row `kbd_default`. -/
def execKbdDefault (s : State) : Step := .next s.kbdDefault

/-- Row `kbd_any_other`. -/
def execKbdAnyOther (s : State) : Step := .next s.kbdAnyOther

/-- Row `kbd_parameter_byte`: the byte is not looked at. -/
def execKbdParameterByte (s : State) : Step := .next s.kbdParameterByte

/-- `KBD.HOSTBYTE` (R280): enabled when the latch is full; the byte is taken and its rule runs, in one step. -/
def execKbdHostbyte (s : State) : Step :=
  .next (match s.kbd.rxLatch with
    | none => s
    | some b => State.hostByte { s with kbd := s.kbd.emptyLatch } b)

/-- `KBD.KEYSEQ(code, pressed)` (R294). -/
def execKbdKeyseq (code : Byte) (pressed : Bool) (s : State) : Step := .next (s.keyseq code pressed)

end Sys2Proof.Machine
end

