-- ==== Sys2Proof/Machine/Record.lean ====
section
/-! DEFINITION. The persisted output configuration record (46_storage_record.md). -/

namespace Sys2Proof.Machine

/-- `REC.READ` (R312): the stored byte, if the magic byte and the CRC are right.  The CRC is computed only when the magic byte
is right. -/
def State.recRead (s : State) : State × Option Byte :=
  if s.nv.b0 ≠ s.cfg.storageMagic then (s, none)
  else (s.runCrc s.nv.six, if crcCheck s.nv then some s.nv.b1 else none)

/-- `REC.WRITE(v)` (R313).  Where writes are not atomic, the old content is remembered until the next step, so that a restart
can leave any mixture of old and new bytes (R318, log entry 7). -/
def State.recWrite (s : State) (v : Byte) : State :=
  let h : Six := ⟨s.cfg.storageMagic, v, 0#8, 0#8, 0#8, 0#8⟩
  { s with crc := crcSix h, nv := crcAppend h, nvTorn := if s.cfg.nvWriteAtomic then s.nvTorn else some s.nv }

/-- `REC.UPDATE(mask, bits, force)` (R314). -/
def State.recUpdate (s : State) (mask bits : Byte) (force : Bool) : State :=
  if force then s.recWrite (bits &&& mask)
  else s.recRead.1.recWrite (((s.recRead.2.getD 0#8) &&& ~~~mask) ||| (bits &&& mask))

/-- `REC.INIT` (R316): the stored selection, or the compiled-in default written back by one forced update of both masks. -/
def State.recInit (s : State) : State × Byte :=
  match s.recRead with
  | (s', some v) => (s', v)
  | (s', none) =>
    let both := s.cfg.bkKbdMask ||| s.cfg.bkMouseMask
    (s'.recUpdate both s.cfg.defaultOutputs true, s.cfg.defaultOutputs &&& both)

/-- `REC.READ` (R312). -/
def execRecRead (s : State) : Step := .next { s.recRead.1 with result := .outputs s.recRead.2 }

/-- `REC.WRITE(v)` (R313). -/
def execRecWrite (v : Byte) (s : State) : Step := .next (s.recWrite v)

/-- `REC.UPDATE(mask, bits, force)` (R314). -/
def execRecUpdate (mask bits : Byte) (force : Bool) (s : State) : Step := .next (s.recUpdate mask bits force)

/-- `REC.INIT` (R316). -/
def execRecInit (s : State) : Step := .next { s.recInit.1 with result := .byte s.recInit.2 }

end Sys2Proof.Machine
end

