-- ==== Sys2Proof/Machine/Commands.lean ====
section
/-! DEFINITION. The eleven commands, the unrecognised command and the CRC mismatch (42_commands.md, 60_exceptions.md R331).  A
command's rule is the body of `EXEC(r)`: it gives the state after its side effects and the status for the composer.  The row's
meaning is `DISPATCH` on a request of that row (41_frame_codec.md R157). -/

namespace Sys2Proof.Machine

/-- `ping` (R181). -/
def rulePing (s : State) : State × Byte := (s, s.cfg.stOk)

/-- `set_keyboard_backend` and `set_mouse_backend`, each with its own mask (R182, R183, R315). -/
def ruleSetBackend (mask bits : Byte) (s : State) : State × Byte :=
  if s.cfg.dynamicSupported then ({ s.recUpdate mask bits false with resetRequired := true }, s.cfg.stOk)
  else (s, s.cfg.stOk)

/-- `set_usb_connected(flag)` (R184): the board is called and its connection state follows (log entry 9). -/
def ruleSetUsbConnected (p0 : Byte) (s : State) : State × Byte :=
  if s.cfg.vbusConnectable then
    ({ s.call (.setVbusConnected (flagOf p0)) with env := { s.env with vbusConnected := flagOf p0 } }, s.cfg.stOk)
  else (s, s.cfg.stOk)

/-- `clear_all` (R185): both drivers, keyboard first. -/
def ruleClearAll (s : State) : State × Byte := ((s.call .kbdClear).call .mouseClear, s.cfg.stOk)

/-- `send_key(code, pressed)` on the active keyboard driver: with the PS/2 driver the call ends in `KBD.KEYSEQ` (R186,
45_ps2_keyboard_commands.md R294). -/
def State.sendKey (s : State) (code : Byte) (pressed : Bool) : State :=
  if s.env.kbdKind = .ps2Keyboard then (s.call (.sendKey code pressed)).keyseq code pressed
  else s.call (.sendKey code pressed)

/-- `key_event(code, pressed)` (R186). -/
def ruleKeyEvent (p0 p1 : Byte) (s : State) : State × Byte := (s.sendKey p0 (pressedOf p1), s.cfg.stOk)

/-- `mouse_button_event(mask0, mask1)` (R187). -/
def ruleMouseButtonEvent (p0 p1 : Byte) (s : State) : State × Byte := (s.call (buttonsCall s.cfg p0 p1), s.cfg.stOk)

/-- `mouse_absolute_move(x_hi, x_lo, y_hi, y_lo)` (R188). -/
def ruleMouseAbsoluteMove (p0 p1 p2 p3 : Byte) (s : State) : State × Byte :=
  (s.call (.sendMove (coordinateOf p0 p1) (coordinateOf p2 p3)), s.cfg.stOk)

/-- `mouse_relative_move(dx, dy)` (R189). -/
def ruleMouseRelativeMove (p0 p1 : Byte) (s : State) : State × Byte :=
  (s.call (.sendRelative (deltaOf p0) (deltaOf p1)), s.cfg.stOk)

/-- `mouse_wheel(_, dy)` (R190). -/
def ruleMouseWheel (p1 : Byte) (s : State) : State × Byte := (s.call (.sendWheel (wheelOf p1)), s.cfg.stOk)

/-- `repeat_last` (R191): status 0. -/
def ruleRepeatLast (s : State) : State × Byte := (s, 0#8)

/-- An unrecognised command (R192). -/
def ruleUnrecognised (s : State) : State × Byte := (s, s.cfg.stInvalidError)

/-- `EXEC(r)`: selection by the command byte (R180). -/
def runCommand (cmd p0 p1 p2 p3 : Byte) (s : State) : State × Byte :=
  if cmd = s.cfg.cmdPing then rulePing s
  else if cmd = s.cfg.cmdSetKeyboardBackend then ruleSetBackend s.cfg.bkKbdMask p0 s
  else if cmd = s.cfg.cmdSetMouseBackend then ruleSetBackend s.cfg.bkMouseMask p0 s
  else if cmd = s.cfg.cmdSetUsbConnected then ruleSetUsbConnected p0 s
  else if cmd = s.cfg.cmdClearAll then ruleClearAll s
  else if cmd = s.cfg.cmdKeyEvent then ruleKeyEvent p0 p1 s
  else if cmd = s.cfg.cmdMouseButtonEvent then ruleMouseButtonEvent p0 p1 s
  else if cmd = s.cfg.cmdMouseAbsoluteMove then ruleMouseAbsoluteMove p0 p1 p2 p3 s
  else if cmd = s.cfg.cmdMouseRelativeMove then ruleMouseRelativeMove p0 p1 s
  else if cmd = s.cfg.cmdMouseWheel then ruleMouseWheel p1 s
  else if cmd = s.cfg.cmdRepeatLast then ruleRepeatLast s
  else ruleUnrecognised s

/-- The outcome of a request with a bad CRC: no command rule, no call, no record access (R331). -/
def State.answerCrcError (s : State) : State := s.enterOutcome s.cfg.stCrcError

/-- The outcome of an abandoned partial request (R332). -/
def State.answerTimeout (s : State) : State := s.enterOutcome s.cfg.stTimeoutError

/-- Whether a magic byte is the request magic (`magic_ok`, R155). -/
def State.magicOk (s : State) (m : Byte) : Bool := m == s.cfg.requestMagic

/-- Row `ping`. -/
def execPing (m : Byte) (s : State) : Step := .next (s.answer (s.magicOk m) rulePing)

/-- Row `repeat_last`. -/
def execRepeatLast (m : Byte) (s : State) : Step := .next (s.answer (s.magicOk m) ruleRepeatLast)

/-- Row `set_keyboard_backend`. -/
def execSetKeyboardBackend (m bits : Byte) (s : State) : Step :=
  .next (s.answer (s.magicOk m) (ruleSetBackend s.cfg.bkKbdMask bits))

/-- Row `set_mouse_backend`. -/
def execSetMouseBackend (m bits : Byte) (s : State) : Step :=
  .next (s.answer (s.magicOk m) (ruleSetBackend s.cfg.bkMouseMask bits))

/-- Row `set_usb_connected`. -/
def execSetUsbConnected (m flag : Byte) (s : State) : Step := .next (s.answer (s.magicOk m) (ruleSetUsbConnected flag))

/-- Row `clear_all`. -/
def execClearAll (m : Byte) (s : State) : Step := .next (s.answer (s.magicOk m) ruleClearAll)

/-- Row `key_event`. -/
def execKeyEvent (m code pressed : Byte) (s : State) : Step := .next (s.answer (s.magicOk m) (ruleKeyEvent code pressed))

/-- Row `mouse_absolute_move`. -/
def execMouseAbsoluteMove (m xHi xLo yHi yLo : Byte) (s : State) : Step :=
  .next (s.answer (s.magicOk m) (ruleMouseAbsoluteMove xHi xLo yHi yLo))

/-- Row `mouse_button_event`. -/
def execMouseButtonEvent (m mask0 mask1 : Byte) (s : State) : Step :=
  .next (s.answer (s.magicOk m) (ruleMouseButtonEvent mask0 mask1))

/-- Row `mouse_wheel`. -/
def execMouseWheel (m dy : Byte) (s : State) : Step := .next (s.answer (s.magicOk m) (ruleMouseWheel dy))

/-- Row `mouse_relative_move`. -/
def execMouseRelativeMove (m dx dy : Byte) (s : State) : Step :=
  .next (s.answer (s.magicOk m) (ruleMouseRelativeMove dx dy))

/-- Row `unrecognised_command`: no operand is read. -/
def execUnrecognisedCommand (m : Byte) (s : State) : Step := .next (s.answer (s.magicOk m) ruleUnrecognised)

/-- Row `crc_mismatch`: no byte of the frame is interpreted (R331). -/
def execCrcMismatch (s : State) : Step := .next s.answerCrcError

end Sys2Proof.Machine
end

