-- ==== Sys2Proof/Machine/FramePath.lean ====
section
/-! DEFINITION. The frame receiver, decoder, encoder, dispatcher cycle and SPI exchange (41_frame_codec.md).  A step that is not
enabled changes nothing: "the loop goes on either way" (R162). -/

namespace Sys2Proof.Machine

/-- `FRAME.RXBYTE(b)` (R151), on the serial transport.  A stored byte restarts the timeout window (R151, R351; log entry 10). -/
def execFrameRxbyte (b : Byte) (s : State) : Step :=
  .next (if s.cfg.transport = .serial then
      if s.rxIdx < 8 then
        { s with rxBuf := s.rxBuf.set s.rxIdx b, rxIdx := s.rxIdx + 1, env := { s.env with timeoutElapsed := false } }
      else { s with rxOverrunFrame := true }
    else s)

/-- `FRAME.TAKE` (R152). -/
def execFrameTake (s : State) : Step :=
  .next (if s.rxIdx = 8 ∧ s.disp = .idle then
      { s.runCrc s.rxBuf.six with rxIdx := 0, req := some (decodeRequest s.cfg s.rxBuf), disp := .dispatching }
    else s)

/-- `FRAME.TIMEOUT` (R153). -/
def execFrameTimeout (s : State) : Step :=
  .next (if s.cfg.transport = .serial ∧ 0 < s.rxIdx ∧ s.rxIdx < 8 ∧ s.disp = .idle ∧ s.env.timeoutElapsed = true then
      { s with rxIdx := 0, req := some .timeout, disp := .dispatching }
    else s)

/-- `FRAME.DECODE(f)` (R155). -/
def execFrameDecode (f : Frame) (s : State) : Step :=
  .next { s.runCrc f.six with result := .req (decodeRequest s.cfg f) }

/-- The body of `DISPATCH` for what the latch holds (R157). -/
def State.dispatchReq (s : State) : Req → State
  | .crcErr => s.answerCrcError
  | .timeout => s.answerTimeout
  | .ok magicOk cmd p0 p1 p2 p3 => s.answer magicOk (runCommand cmd p0 p1 p2 p3)

/-- `DISPATCH` (R157), enabled while `disp = Dispatching`. -/
def execDispatch (s : State) : Step :=
  .next (if s.disp = .dispatching then
      match s.req with
      | none => s
      | some r => s.dispatchReq r
    else s)

/-- `FRAME.ENCODE(status, backend, caps)` (R159). -/
def execFrameEncode (status backend caps : Byte) (s : State) : Step :=
  .next { s.runCrc (responseSix s.cfg status backend caps) with
    result := .frame (crcAppend (responseSix s.cfg status backend caps)) }

/-- `FRAME.EMIT` (R160): enabled in `Responding` and, on SPI, once the earlier response has been shifted out. -/
def execFrameEmit (s : State) : Step :=
  .next (if s.disp = .responding then
      match s.cfg.transport with
      | .serial => { s.leaveOutcome with out := s.out ++ [.txFrame s.emission], draws := s.drawsAfter }
      | .spi =>
        if s.spiOut.b0 = 0#8 then { s.leaveOutcome with spiOut := s.emission, spiOidx := 0, draws := s.drawsAfter }
        else s
    else s)

/-- The receiving half of an SPI exchange while no response is ready: leading zero bytes are filler, and a complete request
waits (R166). -/
def State.spiReceive (s : State) (b : Byte) : State :=
  if s.rxIdx < 8 ∧ ¬(s.rxIdx = 0 ∧ b = 0#8) then { s with rxBuf := s.rxBuf.set s.rxIdx b, rxIdx := s.rxIdx + 1 } else s

/-- `SPI.EXCHANGE(in) -> out` (R166), on the SPI transport. -/
def execSpiExchange (b : Byte) (s : State) : Step :=
  .next (if s.cfg.transport = .spi then
      if s.spiOut.b0 ≠ 0#8 then
        if s.spiOidx = 7 then
          { s with out := s.out ++ [.spiOut (s.spiOut.get s.spiOidx.val)], spiOidx := 0,
                   spiOut := { s.spiOut with b0 := 0#8 } }
        else { s with out := s.out ++ [.spiOut (s.spiOut.get s.spiOidx.val)], spiOidx := s.spiOidx + 1 }
      else { s.spiReceive b with out := s.out ++ [.spiOut 0#8] }
    else s)

end Sys2Proof.Machine
end

