-- ==== Sys2Proof/Machine/Response.lean ====
section
/-! DEFINITION. Response composition and repeat as operations (43_response.md section 3). -/

namespace Sys2Proof.Machine

/-- `RESP.COMPOSE(status)` (R218); composing status 0 is not a composition but a repeat (30_encoding.md R118). -/
def execRespCompose (status : Byte) (s : State) : Step := .next (s.respond status)

/-- `RESP.REPEAT` (R219). -/
def execRespRepeat (s : State) : Step := .next s.repeatResponse

end Sys2Proof.Machine
end

