-- ==== Sys2Proof/Machine/Dispatch.lean ====
section
/-! DEFINITION. The meaning of each row of spec/opcode_table.json, one arm per constructor. -/

namespace Sys2Proof.Machine

def exec (i : Instr) (s : State) : Host.Outcome State Fault Refusal :=
  match i with
  | .ping m _ _ _ _ => Sys2Proof.Machine.execPing m s
  | .repeatLast m _ _ _ _ => Sys2Proof.Machine.execRepeatLast m s
  | .setKeyboardBackend m bits _ _ _ => Sys2Proof.Machine.execSetKeyboardBackend m bits s
  | .setMouseBackend m bits _ _ _ => Sys2Proof.Machine.execSetMouseBackend m bits s
  | .setUsbConnected m flag _ _ _ => Sys2Proof.Machine.execSetUsbConnected m flag s
  | .clearAll m _ _ _ _ => Sys2Proof.Machine.execClearAll m s
  | .keyEvent m code pressed _ _ => Sys2Proof.Machine.execKeyEvent m code pressed s
  | .mouseAbsoluteMove m xHi xLo yHi yLo => Sys2Proof.Machine.execMouseAbsoluteMove m xHi xLo yHi yLo s
  | .mouseButtonEvent m mask0 mask1 _ _ => Sys2Proof.Machine.execMouseButtonEvent m mask0 mask1 s
  | .mouseWheel m _ dy _ _ => Sys2Proof.Machine.execMouseWheel m dy s
  | .mouseRelativeMove m dx dy _ _ => Sys2Proof.Machine.execMouseRelativeMove m dx dy s
  | .unrecognisedCommand m _ _ _ _ _ => Sys2Proof.Machine.execUnrecognisedCommand m s
  | .crcMismatch _ => Sys2Proof.Machine.execCrcMismatch s
  | .kbdReset => Sys2Proof.Machine.execKbdReset s
  | .kbdResend => Sys2Proof.Machine.execKbdResend s
  | .kbdEcho => Sys2Proof.Machine.execKbdEcho s
  | .kbdIdentify => Sys2Proof.Machine.execKbdIdentify s
  | .kbdSetLeds => Sys2Proof.Machine.execKbdSetLeds s
  | .kbdSetTypematic => Sys2Proof.Machine.execKbdSetTypematic s
  | .kbdEnableScanning => Sys2Proof.Machine.execKbdEnableScanning s
  | .kbdDisable => Sys2Proof.Machine.execKbdDisable s
  | .kbdDefault => Sys2Proof.Machine.execKbdDefault s
  | .kbdAnyOther _ => Sys2Proof.Machine.execKbdAnyOther s
  | .kbdParameterByte _ => Sys2Proof.Machine.execKbdParameterByte s
  | .crc16Init => Sys2Proof.Machine.execCrc16Init s
  | .crc16Bit => Sys2Proof.Machine.execCrc16Bit s
  | .crc16Byte b => Sys2Proof.Machine.execCrc16Byte b s
  | .crc16Block data => Sys2Proof.Machine.execCrc16Block data s
  | .crc16Check f => Sys2Proof.Machine.execCrc16Check f s
  | .crc16Append h => Sys2Proof.Machine.execCrc16Append h s
  | .frameRxbyte b => Sys2Proof.Machine.execFrameRxbyte b s
  | .frameTake => Sys2Proof.Machine.execFrameTake s
  | .frameTimeout => Sys2Proof.Machine.execFrameTimeout s
  | .frameDecode f => Sys2Proof.Machine.execFrameDecode f s
  | .dispatch => Sys2Proof.Machine.execDispatch s
  | .frameEncode status backend caps => Sys2Proof.Machine.execFrameEncode status backend caps s
  | .frameEmit => Sys2Proof.Machine.execFrameEmit s
  | .spiExchange b => Sys2Proof.Machine.execSpiExchange b s
  | .respCompose status => Sys2Proof.Machine.execRespCompose status s
  | .respRepeat => Sys2Proof.Machine.execRespRepeat s
  | .ps2Sample ch => Sys2Proof.Machine.execPs2Sample ch s
  | .ps2Take ch => Sys2Proof.Machine.execPs2Take ch s
  | .ps2Enqueue ch b => Sys2Proof.Machine.execPs2Enqueue ch b s
  | .ps2Rxframe ch w => Sys2Proof.Machine.execPs2Rxframe ch w s
  | .ps2Txframe ch => Sys2Proof.Machine.execPs2Txframe ch s
  | .kbdHostbyte => Sys2Proof.Machine.execKbdHostbyte s
  | .kbdKeyseq code pressed => Sys2Proof.Machine.execKbdKeyseq code pressed s
  | .recRead => Sys2Proof.Machine.execRecRead s
  | .recWrite v => Sys2Proof.Machine.execRecWrite v s
  | .recUpdate mask bits force => Sys2Proof.Machine.execRecUpdate mask bits force s
  | .recInit => Sys2Proof.Machine.execRecInit s

end Sys2Proof.Machine
end

