-- ==== Sys2Proof/Machine/Loop.lean ====
section
/-! DEFINITION. What happens around the instructions: the boot sequence, the main loop's schedule, the environment's changes, a
restart (70_reset_and_hazards.md R370, R371, R373), and where an encoded instruction stands when it is fetched. -/

namespace Sys2Proof.Machine

/-- The next place of the loop body, in the order of R373; after the last one the loop begins again. -/
def LoopPos.succ : LoopPos → LoopPos
  | .boot => .periodic
  | .periodic => .timeout
  | .timeout => .take
  | .take => .dispatch
  | .dispatch => .emit
  | .emit => .ps2Kbd
  | .ps2Kbd => .ps2Mouse
  | .ps2Mouse => .periodic

/-- The machine with `MAIN` one place further. -/
def State.advance (s : State) : State := { s with loop := s.loop.succ }

/-- The keyboard driver that the surrounding software instantiates for a selection (R371): "none" gives Dummy; where the source
gives no mapping, the parameters say which (log entry 12). -/
def keyboardKindOf (p : Params) (sel : Byte) : DriverKind :=
  if sel = p.kbdNone then .dummy
  else if sel = p.kbdUsb ∧ p.hasUsb = true then p.usbKeyboardKind
  else if sel = p.kbdPs2 ∧ p.hasPs2 = true then .ps2Keyboard
  else p.oddKeyboardKind

/-- The mouse driver likewise (R371, log entry 12). -/
def mouseKindOf (p : Params) (sel : Byte) : DriverKind :=
  if sel = p.mouseNone then .dummy
  else if sel = p.mouseUsbAbs ∧ p.hasUsb = true then .usbMouseAbsolute
  else if sel = p.mouseUsbCompat ∧ p.hasUsbCompat = true then .usbMouseAbsoluteCompat
  else if sel = p.mouseUsbRel ∧ p.hasUsb = true then .usbMouseRelative
  else if sel = p.mousePs2 ∧ p.hasPs2 = true then .ps2Mouse
  else p.oddMouseKind

/-- Boot step 2: the two selections and the two drivers, fixed from here until the next restart (R371). -/
def Env.instantiate (e : Env) (p : Params) (v : Byte) : Env :=
  { e with
    kbdBackend := v &&& p.bkKbdMask
    mouseBackend := v &&& p.bkMouseMask
    kbdKind := keyboardKindOf p (v &&& p.bkKbdMask)
    mouseKind := mouseKindOf p (v &&& p.bkMouseMask) }

/-- The boot sequence (R371): `REC.INIT`, the drivers, `begin()` on each, and into the loop. -/
def State.boot (s : State) : State :=
  let s1 := s.recInit.1
  let s2 := { s1 with env := s1.env.instantiate s.cfg s.recInit.2 }
  { (s2.call .kbdBegin).call .mouseBegin with loop := .periodic }

/-- The instruction that `MAIN` runs at its place of the loop body (R373); a channel is serviced only while its PS/2 backend
is active. -/
def State.loopInstr (s : State) : Option Instr :=
  match s.loop with
  | .boot => none
  | .periodic => none
  | .timeout => some .frameTimeout
  | .take => some .frameTake
  | .dispatch => some .dispatch
  | .emit => some .frameEmit
  | .ps2Kbd => if s.serviced .kbd then some .kbdHostbyte else none
  | .ps2Mouse => if s.serviced .mouse then some (.ps2Take .mouse) else none

/-- One step of `MAIN` at its place: the boot sequence, the call of `periodic()`, or the place's instruction. -/
def State.mainStep (s : State) : Step :=
  match s.loop with
  | .boot => .next s.boot
  | .periodic => .next (s.call .kbdPeriodic).advance
  | _ =>
    match s.loopInstr with
    | none => .next s.advance
    | some i => mapNext State.advance (exec i s)

/-- An environment input changes (10_state.md R39). -/
def Env.change (e : Env) : EnvChange → Env
  | .kbdOffline b => { e with kbdOffline := b }
  | .mouseOffline b => { e with mouseOffline := b }
  | .leds l => { e with leds := l }
  | .vbusConnected b => { e with vbusConnected := b }
  | .pulls .kbd p => { e with kbdPulls := p }
  | .pulls .mouse p => { e with mousePulls := p }
  | .timeoutElapsed b => { e with timeoutElapsed := b }

/-- The storage content that a restart finds: the record, or a mixture when a write that is not atomic was under way (R318). -/
def State.nvAfterRestart (s : State) (landed : Byte) : Frame :=
  match s.nvTorn with
  | none => s.nv
  | some old => Frame.mix landed old s.nv

/-- A physical restart (R370, 10_state.md R40): volatile state at its reset values, `nv` preserved.  The inputs that the board
and the target own keep their levels; the drivers are gone until the boot sequence instantiates them. -/
def State.restart (s : State) (landed : Byte) : State :=
  { State.resetWith s.cfg (s.nvAfterRestart landed) with
    env := { s.env with
      kbdKind := Env.reset.kbdKind, mouseKind := Env.reset.mouseKind,
      kbdBackend := Env.reset.kbdBackend, mouseBackend := Env.reset.mouseBackend }
    out := s.out
    draws := s.draws
    sched := s.sched }

/-- A record write is over: no restart can tear it any more. -/
def State.settle (s : State) : State := { s with nvTorn := none }

/-- One event.  A scheduled row whose agent is not enabled changes nothing (log entries 14, 18). -/
def runEvent (e : Event) (s : State) : Step :=
  match e with
  | .main => s.settle.mainStep
  | .op i =>
    if isEvent i then
      if s.stepEnabled i then exec (agentStep i) s.settle else .next s.settle
    else .refused .notAnEvent
  | .env c => .next { s.settle with env := s.env.change c }
  | .restart landed => .next (s.restart landed)

/-- The schedule's next entry; with nothing scheduled, the main loop goes on. -/
def State.nextEvent (s : State) : Event := s.sched.head?.getD .main

/-- The machine with the next entry taken off the schedule. -/
def State.popEvent (s : State) : State := { s with sched := s.sched.tail }

/-- A request unit about to be dispatched: decoded into the latch, `MAIN` standing at `DISPATCH`. -/
def State.placeRequest (s : State) (f : Frame) : State :=
  { s with req := some (decodeRequest s.cfg f), disp := .dispatching, loop := .dispatch, sched := .main :: s.sched }

/-- A host byte about to be handled: in the keyboard latch, no parameter awaited, the PS/2 keyboard active, and `MAIN` standing
at the keyboard channel. -/
def State.placeHostByte (s : State) (b : Byte) : State :=
  { s with
    kbd := { s.kbd with rxLatch := some b }
    kbdPend := none
    env := { s.env with kbdKind := .ps2Keyboard }
    loop := .ps2Kbd
    sched := .main :: s.sched }

end Sys2Proof.Machine
end

