-- ==== Sys2Proof/Machine/Step.lean ====
section
/-! DEFINITION. One step of the machine, and where the host places an instruction for the next step to run. -/

namespace Sys2Proof.Machine

/-- One step: the next event of the schedule takes place. -/
def step (s : State) : Host.Outcome State Fault Refusal := runEvent s.nextEvent s.popEvent

/-- The state in which the very next step runs the instruction whose bits are `w` (log entry 13): 64 bits are a request frame
numbered as R90 numbers it, placed in the request latch; 8 bits are a host byte, placed in the keyboard latch. -/
def State.withFetchWord (s : State) (nbits w : Nat) : State :=
  if nbits = 64 then s.placeRequest (Frame.ofNat64 w)
  else if nbits = 8 then s.placeHostByte (BitVec.ofNat 8 w)
  else s

end Sys2Proof.Machine
end

