-- ==== Sys2Proof/Safety.lean ====
section
/-! DEFINITION. What counts as a safe run, in the terms that claims use: the sticky fault flags (60_exceptions.md R336), the
premises on the environment, and the invariant of the machine. -/

namespace Sys2Proof.Machine

/-- No sticky fault flag of a channel is set (10_state.md R31). -/
def Channel.faultFree (c : Channel) : Bool := !c.rxErr && !c.rxOverrun && !c.txqOverflow && !c.txCollision

/-- No sticky fault flag is set: "a model should treat each as a fault (a state in which no further claim is made)" (R336). -/
def State.faultFree (s : State) : Bool := !s.rxOverrunFrame && s.kbd.faultFree && s.mouse.faultFree

/-- The target of a channel keeps both lines released (70_reset_and_hazards.md R385). -/
def State.targetQuiet (s : State) (ch : Chan) : Prop := s.env.pulls ch = ⟨false, false⟩

/-- A channel on which nothing is under way: both state machines idle, both lines released by the block, the clock seen high
(44_ps2_transceiver.md R245). -/
def Channel.Quiet (c : Channel) : Prop :=
  c.rxFsm = .idle ∧ c.txFsm = .txIdle ∧ c.clkPull = false ∧ c.datPull = false ∧ c.clkPrev = true

/-- The events by which a target puts the eleven slots of `w` on its channel, with one falling clock edge per slot and a sample
at each level of the clock (R257, R259). -/
def targetSends (ch : Chan) (w : BitVec 11) : List Event :=
  (List.range 11).flatMap (fun k =>
    [.env (.pulls ch ⟨true, !w.getLsbD k⟩), .op (.ps2Sample ch), .env (.pulls ch ⟨false, !w.getLsbD k⟩), .op (.ps2Sample ch)])

/-- Several instructions one after the other. -/
def execAll : List Instr → State → Step
  | [], s => .next s
  | i :: is, s =>
    match exec i s with
    | .next t => execAll is t
    | .fault e => .fault e
    | .refused r => .refused r

/-- `n` steps of the machine. -/
def runSteps : Nat → State → Step
  | 0, s => .next s
  | n + 1, s =>
    match step s with
    | .next t => runSteps n t
    | .fault e => .fault e
    | .refused r => .refused r

/-- The magic policy lets a request with magic byte `m` through (30_encoding.md R111). -/
def State.accepts (s : State) (m : Byte) : Prop := s.cfg.magicPolicy = .ignore ∨ m = s.cfg.requestMagic

/-- The response frame of R91 for a status byte, with the content bytes of the present state and its CRC. -/
def State.responseFrame (s : State) (st : Byte) : Frame :=
  crcAppend ⟨s.cfg.responseMagic, st, backendByte s, capsByte s, 0#8, 0#8⟩

/-- The state in which a request has been answered with a fresh response: the cache holds it, the latch is empty, and
`FRAME.EMIT` is next (60_exceptions.md R346). -/
def State.answered (s : State) (st : Byte) : State :=
  { s with
    crc := crcBlock [s.cfg.responseMagic, st, backendByte s, capsByte s, 0#8, 0#8]
    lastResp := s.responseFrame st
    lastValid := true
    req := none
    disp := .responding }

/-- The state in which a request has been executed and answered OK. -/
def State.answeredOk (s : State) : State := s.answered (statusByte s s.cfg.stOk)

/-- The arity of a command code (30_encoding.md R96); a code that names no command has none. -/
def arityOf (p : Params) (cmd : Byte) : Nat :=
  if cmd = p.cmdSetKeyboardBackend ∨ cmd = p.cmdSetMouseBackend ∨ cmd = p.cmdSetUsbConnected then 1
  else if cmd = p.cmdKeyEvent ∨ cmd = p.cmdMouseButtonEvent ∨ cmd = p.cmdMouseRelativeMove ∨ cmd = p.cmdMouseWheel then 2
  else if cmd = p.cmdMouseAbsoluteMove then 4
  else 0

/-- A unit with one bit of one byte flipped. -/
def flipBit (f : Frame) (k j : Nat) : Frame := f.set k (f.get k ^^^ (1#8 <<< j))

/-- The record holding the selection byte `v` (30_encoding.md R92). -/
def State.record (s : State) (v : Byte) : Frame := crcAppend ⟨s.cfg.storageMagic, v, 0#8, 0#8, 0#8, 0#8⟩

/-- A stored record is valid (46_storage_record.md R311). -/
abbrev State.recordValid (s : State) : Prop :=
  s.nv.b0 = s.cfg.storageMagic ∧
  merge16 s.nv.b6 s.nv.b7 = crcBlock [s.nv.b0, s.nv.b1, s.nv.b2, s.nv.b3, s.nv.b4, s.nv.b5]

/-- A channel's queue with bytes appended. -/
def State.queued (s : State) (ch : Chan) (bs : List Byte) : State :=
  s.setChan ch { s.chan ch with txq := (s.chan ch).txq ++ bs }

/-- Bytes offered to a channel's queue one after the other, whatever room it has: the queue becomes as many of them as the bound
allows, in order, and the sticky flag is set when some did not fit (R251). -/
def State.offered (s : State) (ch : Chan) (bs : List Byte) : State :=
  s.setChan ch { s.chan ch with
    txq := ((s.chan ch).txq ++ bs).take s.cfg.ps2TxqDepth
    txqOverflow := (s.chan ch).txqOverflow || decide (s.cfg.ps2TxqDepth < (s.chan ch).txq.length + bs.length) }

/-- A channel's queue has room for `n` more bytes. -/
def State.room (s : State) (ch : Chan) (n : Nat) : Prop := (s.chan ch).txq.length + n ≤ s.cfg.ps2TxqDepth

/-- What the state machines of a channel promise: the queue respects its bound (R250); while no byte is sent both lines are
released; while slot `k` is sent the receiver is idle, the clock is pulled exactly in the `Low` phase, and the data line carries
bit `k` of the wire frame (R245 to R248). -/
def Channel.Coherent (depth : Nat) (c : Channel) : Prop :=
  c.txq.length ≤ depth ∧
  match c.txFsm with
  | .txIdle => c.clkPull = false ∧ c.datPull = false
  | .txSlot k ph => c.rxFsm = .idle ∧ c.clkPull = (ph == .low) ∧ c.datPull = !(wire c.txByte).getLsbD k.val

/-- A channel that has never been serviced since reset: nothing is received or sent on it, both outputs are released, "and the
queue stays empty" (R233); so is the latch. -/
def Channel.Untouched (c : Channel) : Prop :=
  c.rxFsm = .idle ∧ c.txFsm = .txIdle ∧ c.clkPull = false ∧ c.datPull = false ∧ c.txq = [] ∧ c.rxLatch = none

/-- A response as the composer makes it (30_encoding.md R91, 43_response.md R222). -/
def WellComposed (p : Params) (f : Frame) : Prop :=
  f.b0 = p.responseMagic ∧ f.b4 = 0#8 ∧ f.b5 = 0#8 ∧ crcCheck f = true

/-- THE INVARIANT that every step keeps. -/
structure Inv (s : State) : Prop where
  /-- R9. -/
  cfg : s.cfg.WF
  /-- R21: `rx_idx` never counts past 8. -/
  rxIdx : s.rxIdx ≤ 8
  /-- R22: the latch holds a value exactly while `disp = Dispatching`. -/
  latch : s.disp = .dispatching ↔ s.req.isSome = true
  /-- R332: no timeout on SPI. -/
  noSpiTimeout : s.cfg.transport = .spi → s.req ≠ some .timeout
  /-- R222: the cache, once filled, holds a well-composed response. -/
  cache : s.lastValid = true → WellComposed s.cfg s.lastResp
  /-- R182, R183: only a build with dynamic configuration sets the flag. -/
  resetRequired : s.resetRequired = true → s.cfg.dynamicSupported = true
  /-- R318: an atomic write cannot be torn. -/
  torn : s.cfg.nvWriteAtomic = true → s.nvTorn = none
  kbd : s.kbd.Coherent s.cfg.ps2TxqDepth
  mouse : s.mouse.Coherent s.cfg.ps2TxqDepth
  /-- R233: a channel that is not serviced moves nothing and queues nothing. -/
  kbdIdle : s.serviced .kbd = false → s.kbd.Untouched
  mouseIdle : s.serviced .mouse = false → s.mouse.Untouched
  /-- R371: no driver exists before the boot sequence. -/
  noDriver : s.loop = .boot → s.env.kbdKind = .dummy ∧ s.env.mouseKind = .dummy

end Sys2Proof.Machine
end

