-- ==== Sys2Proof/Certificates/Slice0/Obligations.lean ====
section
/-! DEFINITION. The statements about this model, rule by rule of spec/.  A statement that says what an instruction does says it for
every state of every build, as an equation whose right side is the whole next state, so that it is also the instruction's frame:
what the equation does not name is unchanged. -/

section Statements

open Sys2Proof Sys2Proof.Machine

/-! ### CRC16 -/

/-- R131, R132, R133: `CRC16.INIT` loads the seed; `CRC16.BIT` shifts once, with the exclusive-or when the low bit was 1;
`CRC16.BYTE` enters the byte in the low eight bits and is eight `CRC16.BIT` steps.  Only the register changes. -/
def Obligations.CrcSingleSteps : Prop :=
  ∀ (s : State) (b : Byte),
    exec .crc16Init s = .next { s with crc := 0xFFFF#16 } ∧
    exec .crc16Bit s = .next { s with crc := if s.crc.getLsbD 0 then (s.crc >>> 1) ^^^ 0xA001#16 else s.crc >>> 1 } ∧
    exec (.crc16Byte b) s = execAll (List.replicate 8 .crc16Bit) { s with crc := s.crc ^^^ b.setWidth 16 } ∧
    ∃ c, exec (.crc16Byte b) s = .next { s with crc := c }

/-- R134: `CRC16.BLOCK` is `CRC16.INIT` and then one `CRC16.BYTE` for each byte, index 0 first; it returns the register. -/
def Obligations.CrcBlockRunsByteByByte : Prop :=
  ∀ (data : List Byte) (s : State), ∃ c,
    exec (.crc16Block data) s = .next { s with crc := c, result := .word c } ∧
    execAll (.crc16Init :: data.map .crc16Byte) s = .next { s with crc := c }

/-- R135, R136: the check compares the CRC of bytes 0 to 5 with the stored one, high byte first; the append puts the CRC after
the six bytes, high byte first. -/
def Obligations.CrcCheckAndAppend : Prop :=
  ∀ (s : State) (f : Frame) (h : Six),
    (let c := crcBlock [f.b0, f.b1, f.b2, f.b3, f.b4, f.b5]
     exec (.crc16Check f) s = .next { s with crc := c, result := .bool (decide (c = f.b6 ++ f.b7)) }) ∧
    (let c := crcBlock [h.b0, h.b1, h.b2, h.b3, h.b4, h.b5]
     exec (.crc16Append h) s = .next { s with
       crc := c
       result := .frame ⟨h.b0, h.b1, h.b2, h.b3, h.b4, h.b5, c.extractLsb' 8 8, c.extractLsb' 0 8⟩ })

/-- T1 of the source, R138 and R139: what `CRC16.APPEND` makes passes `CRC16.CHECK`, and with any one of the 64 bits flipped it
fails. -/
def Obligations.SingleBitErrorsAreDetected : Prop :=
  ∀ (s : State) (h : Six) (f : Frame) (t : State), exec (.crc16Append h) s = .next t → t.result = .frame f →
    (∃ u, exec (.crc16Check f) s = .next u ∧ u.result = .bool true) ∧
    ∀ k j : Nat, k < 8 → j < 8 → ∃ u, exec (.crc16Check (flipBit f k j)) s = .next u ∧ u.result = .bool false

/-! ### The three byte spaces -/

/-- R60: an access with `i + n > 8` does not exist; inside the eight cells, what was written is read back and every other cell of
every space keeps its byte. -/
def Obligations.SpacesAreEightCells : Prop :=
  ∀ (s : State) (sp : Space) (i : Nat) (v : List Byte),
    (8 < i + v.length →
      memRead s sp i v.length = .error (.noSuchCell sp i v.length) ∧
      memWrite s sp i v = .error (.noSuchCell sp i v.length)) ∧
    (i + v.length ≤ 8 → ∃ t, memWrite s sp i v = .ok t ∧ memRead t sp i v.length = .ok v ∧
      ∀ (sp' : Space) (j : Nat), j < 8 → (sp' ≠ sp ∨ j < i ∨ i + v.length ≤ j) → memRead t sp' j 1 = memRead s sp' j 1)

/-! ### Receiving, decoding, encoding -/

/-- R151: on the serial transport a byte goes to the place that `rx_idx` counts; with a complete request waiting it is dropped and
flagged.  Whether the environment's view of the inter-byte window changes is left open here (the model's choice: log entry 10). -/
def Obligations.RxByteStoresOrDrops : Prop :=
  ∀ (s : State) (b : Byte), s.cfg.transport = .serial →
    (s.rxIdx < 8 → ∃ e, exec (.frameRxbyte b) s = .next { s with
      rxBuf := s.rxBuf.set s.rxIdx b, rxIdx := s.rxIdx + 1, env := { s.env with timeoutElapsed := e } }) ∧
    (8 ≤ s.rxIdx → exec (.frameRxbyte b) s = .next { s with rxOverrunFrame := true })

/-- R152, R155: the eight bytes are taken and decoded in one step: the latch gets the request, or `CrcErr`.  That the register
`crc` is left at the CRC of the six bytes is the model's reading (log entry 16). -/
def Obligations.TakeLatchesTheRequest : Prop :=
  ∀ s : State, s.rxIdx = 8 → s.disp = .idle →
    let f := s.rxBuf
    let c := crcBlock [f.b0, f.b1, f.b2, f.b3, f.b4, f.b5]
    exec .frameTake s = .next { s with
      crc := c
      rxIdx := 0
      req := some (if c = f.b6 ++ f.b7 then .ok (decide (f.b0 = s.cfg.requestMagic)) f.b1 f.b2 f.b3 f.b4 f.b5 else .crcErr)
      disp := .dispatching }

/-- R153: a partial request is abandoned when the window has passed. -/
def Obligations.TimeoutDiscardsThePartialRequest : Prop :=
  ∀ s : State, s.cfg.transport = .serial → 0 < s.rxIdx → s.rxIdx < 8 → s.disp = .idle → s.env.timeoutElapsed = true →
    exec .frameTimeout s = .next { s with rxIdx := 0, req := some .timeout, disp := .dispatching }

/-- R162, R233, R374: a step that is not enabled waits for nothing: the machine goes on unchanged.  That "not enabled" is a next
state equal to the old one is the model's form of the rule (log entry 14).  That the other transport's byte step does nothing, and
that the byte-level steps of R257 run only on a serviced channel at rest, is the model's reading (log entry 18). -/
def Obligations.StepsNotEnabledChangeNothing : Prop :=
  ∀ (s : State) (ch : Chan) (b : Byte) (w : BitVec 11),
    (¬(s.rxIdx = 8 ∧ s.disp = .idle) → exec .frameTake s = .next s) ∧
    (¬(s.cfg.transport = .serial ∧ 0 < s.rxIdx ∧ s.rxIdx < 8 ∧ s.disp = .idle ∧ s.env.timeoutElapsed = true) →
      exec .frameTimeout s = .next s) ∧
    (s.disp ≠ .dispatching → exec .dispatch s = .next s) ∧
    (s.disp ≠ .responding → exec .frameEmit s = .next s) ∧
    (s.cfg.transport = .spi → exec (.frameRxbyte b) s = .next s) ∧
    (s.cfg.transport = .serial → exec (.spiExchange b) s = .next s) ∧
    ((s.chan ch).rxLatch = none → exec (.ps2Take ch) s = .next s) ∧
    (s.kbd.rxLatch = none → exec .kbdHostbyte s = .next s) ∧
    ((s.chan ch).txq = [] → exec (.ps2Txframe ch) s = .next s) ∧
    (s.serviced ch = false → exec (.ps2Sample ch) s = .next s ∧ exec (.ps2Rxframe ch w) s = .next s ∧
      exec (.ps2Txframe ch) s = .next s) ∧
    (¬((s.chan ch).rxFsm = .idle ∧ (s.chan ch).txFsm = .txIdle) → exec (.ps2Rxframe ch w) s = .next s ∧
      exec (.ps2Txframe ch) s = .next s)

/-- R155, R159: decoding and encoding of a frame as operations, with the values they return.  The rules call both pure functions;
that each leaves its CRC in the register `crc` is the model's reading (log entry 16). -/
def Obligations.DecodeAndEncodeFrames : Prop :=
  ∀ (s : State) (f : Frame) (status backend caps : Byte),
    (let c := crcBlock [f.b0, f.b1, f.b2, f.b3, f.b4, f.b5]
     exec (.frameDecode f) s = .next { s with
       crc := c
       result := .req (if c = f.b6 ++ f.b7 then .ok (decide (f.b0 = s.cfg.requestMagic)) f.b1 f.b2 f.b3 f.b4 f.b5
         else .crcErr) }) ∧
    (let c := crcBlock [s.cfg.responseMagic, status, backend, caps, 0#8, 0#8]
     exec (.frameEncode status backend caps) s = .next { s with
       crc := c
       result := .frame ⟨s.cfg.responseMagic, status, backend, caps, 0#8, 0#8, c.extractLsb' 8 8, c.extractLsb' 0 8⟩ })

/-- Every well-formed row that has an encoding is read back from it, with every operand, at the place the row is read at, under
every well-formed assignment of the parameters. -/
def Obligations.EncodedRowsDecodeToThemselves : Prop :=
  ∀ (i : Instr) (p : Params) (src : Source) (bs : List Byte), p.WF → i.wf p = true →
    i.source? p = some src → encode p i = some bs → decode p src bs = .ok i

/-- R156 and the totality of R107: eight bytes always decode at the request place and one byte always decodes at the keyboard
place; and whatever decodes is a well-formed row of that place whose encoding is those bytes, so no bit is dropped. -/
def Obligations.DecodingIsTotalAndLossless : Prop :=
  ∀ p : Params,
    (∀ bs : List Byte, bs.length = 8 → ∃ i, decode p .request bs = .ok i) ∧
    (∀ (pending : Bool) (b : Byte), ∃ i, decode p (.keyboard pending) [b] = .ok i) ∧
    ∀ (src : Source) (bs : List Byte) (i : Instr), decode p src bs = .ok i →
      encode p i = some bs ∧ i.wf p = true ∧ i.source? p = some src

/-- Words written out from R90, R96 and R107, with the code values of `P_REF` (log entry 1), decode to the rows they stand for. -/
def Obligations.SampleWordsDecode : Prop :=
  decodeTableWord 64 0x3301000000001838 = some (.ping 0x33#8 0#8 0#8 0#8 0#8) ∧
  decodeTableWord 64 0x3303030000009C41 = some (.setKeyboardBackend 0x33#8 0x03#8 0#8 0#8 0#8) ∧
  decodeTableWord 64 0x33110401AA55B417 = some (.keyEvent 0x33#8 0x04#8 0x01#8 0xAA#8 0x55#8) ∧
  decodeTableWord 64 0x33121234FFFE1D39 = some (.mouseAbsoluteMove 0x33#8 0x12#8 0x34#8 0xFF#8 0xFE#8) ∧
  decodeTableWord 64 0x33FF00000000CC11 = some (.unrecognisedCommand 0x33#8 0xFF#8 0#8 0#8 0#8 0#8) ∧
  decodeTableWord 64 0x3301000000001839 = some (.crcMismatch ⟨0x33#8, 0x01#8, 0#8, 0#8, 0#8, 0#8, 0x18#8, 0x39#8⟩) ∧
  decodeTableWord 8 0xF2 = some .kbdIdentify ∧
  decodeTableWord 8 0xF0 = some (.kbdAnyOther 0xF0#8)

/-! ### A step runs the decoded instruction -/

/-- When `MAIN` stands at `DISPATCH` with a request taken from the bytes of `f`, the step runs the row those bytes decode to, and
`MAIN` goes on to `FRAME.EMIT`.  Around the row the step takes the event off the schedule and closes the window of a torn write. -/
def Obligations.StepRunsTheRequest : Prop :=
  ∀ (s : State) (f : Frame) (i : Instr), s.nextEvent = .main → s.loop = .dispatch → s.disp = .dispatching →
    s.req = some (decodeRequest s.cfg f) → decode s.cfg .request f.toList = .ok i →
    ∃ t, exec i { s with sched := s.sched.tail, nvTorn := none } = .next t ∧ step s = .next { t with loop := .emit }

/-- When `MAIN` stands at the keyboard channel, served by a PS/2 backend, with a byte in the latch, the step takes the byte and
runs the row it decodes to, and `MAIN` goes on to the mouse channel. -/
def Obligations.StepRunsTheHostByte : Prop :=
  ∀ (s : State) (b : Byte) (i : Instr), s.nextEvent = .main → s.loop = .ps2Kbd → s.serviced .kbd = true →
    s.kbd.rxLatch = some b → decode s.cfg (.keyboard s.kbdPend.isSome) [b] = .ok i →
    ∃ t, exec i { s with sched := s.sched.tail, nvTorn := none, kbd := { s.kbd with rxLatch := none } } = .next t ∧
      step s = .next { t with loop := .ps2Mouse }

/-- R6, R340, R371, R373: a scheduled operation runs as one step, at any place of the loop; before boot only the five interrupt
operations run; no step is taken for a channel that is not serviced, so nothing is sampled, sent or queued there (R233); a byte that
`MAIN` takes on the keyboard channel goes to `KBD.HOSTBYTE` (R244); a row that is no agent's own step is refused by name.  R39: an
environment event sets exactly the input it names.  The schedule, the unchanged next state and the refusal are the model's choices
(log entries 4, 6, 14, 18). -/
def Obligations.StepRunsTheScheduledOperation : Prop :=
  ∀ (s : State) (es : List Event),
    let s' : State := { s with sched := es, nvTorn := none }
    (∀ i : Instr, s.sched = .op i :: es →
      let interrupt : Prop := (∃ b, i = .frameRxbyte b) ∨ (∃ b, i = .spiExchange b) ∨ (∃ ch, i = .ps2Sample ch) ∨
        (∃ ch w, i = .ps2Rxframe ch w) ∨ ∃ ch, i = .ps2Txframe ch
      let own : Prop := interrupt ∨ i = .crc16Init ∨ i = .crc16Bit ∨ (∃ b, i = .crc16Byte b) ∨ (∃ d, i = .crc16Block d) ∨
        (∃ f, i = .crc16Check f) ∨ (∃ h, i = .crc16Append h) ∨ i = .frameTake ∨ i = .frameTimeout ∨ (∃ f, i = .frameDecode f) ∨
        i = .dispatch ∨ (∃ x b c, i = .frameEncode x b c) ∨ i = .frameEmit ∨ (∃ ch, i = .ps2Take ch) ∨
        (∃ ch b, i = .ps2Enqueue ch b) ∨ i = .kbdHostbyte ∨ i = .recRead
      let onChannel (ch : Chan) : Prop := i = .ps2Sample ch ∨ (∃ w, i = .ps2Rxframe ch w) ∨ i = .ps2Txframe ch ∨
        i = .ps2Take ch ∨ (∃ b, i = .ps2Enqueue ch b) ∨ (i = .kbdHostbyte ∧ ch = .kbd)
      let enabled : Prop := (s.loop ≠ .boot ∨ interrupt) ∧ ∀ ch, onChannel ch → s.serviced ch = true
      (own → enabled → i ≠ .ps2Take .kbd → step s = exec i s') ∧
      (enabled → i = .ps2Take .kbd → step s = exec .kbdHostbyte s') ∧
      (own → ¬enabled → step s = .next s') ∧
      (¬own → step s = .refused .notAnEvent)) ∧
    (∀ b : Bool, s.sched = .env (.kbdOffline b) :: es → step s = .next { s' with env := { s.env with kbdOffline := b } }) ∧
    (∀ b : Bool, s.sched = .env (.mouseOffline b) :: es → step s = .next { s' with env := { s.env with mouseOffline := b } }) ∧
    (∀ l : Leds, s.sched = .env (.leds l) :: es → step s = .next { s' with env := { s.env with leds := l } }) ∧
    (∀ b : Bool, s.sched = .env (.vbusConnected b) :: es → step s = .next { s' with env := { s.env with vbusConnected := b } }) ∧
    (∀ p : Pulls, s.sched = .env (.pulls .kbd p) :: es → step s = .next { s' with env := { s.env with kbdPulls := p } }) ∧
    (∀ p : Pulls, s.sched = .env (.pulls .mouse p) :: es → step s = .next { s' with env := { s.env with mousePulls := p } }) ∧
    (∀ b : Bool, s.sched = .env (.timeoutElapsed b) :: es → step s = .next { s' with env := { s.env with timeoutElapsed := b } })

/-- R373: the places of the loop body in their order, each with the operation `MAIN` runs there. -/
def Obligations.MainLoopTakesItsPlacesInOrder : Prop :=
  ∀ s : State, s.nextEvent = .main →
    let s' : State := { s with sched := s.sched.tail, nvTorn := none }
    (s.loop = .periodic → step s = .next { s' with out := s.out ++ [.call .kbdPeriodic], loop := .timeout }) ∧
    (s.loop = .timeout → ∃ t, exec .frameTimeout s' = .next t ∧ step s = .next { t with loop := .take }) ∧
    (s.loop = .take → ∃ t, exec .frameTake s' = .next t ∧ step s = .next { t with loop := .dispatch }) ∧
    (s.loop = .dispatch → ∃ t, exec .dispatch s' = .next t ∧ step s = .next { t with loop := .emit }) ∧
    (s.loop = .emit → ∃ t, exec .frameEmit s' = .next t ∧ step s = .next { t with loop := .ps2Kbd }) ∧
    (s.loop = .ps2Kbd → s.serviced .kbd = true →
      ∃ t, exec .kbdHostbyte s' = .next t ∧ step s = .next { t with loop := .ps2Mouse }) ∧
    (s.loop = .ps2Mouse → s.serviced .mouse = true →
      ∃ t, exec (.ps2Take .mouse) s' = .next t ∧ step s = .next { t with loop := .periodic }) ∧
    (s.loop = .ps2Kbd → s.serviced .kbd = false → step s = .next { s' with loop := .ps2Mouse }) ∧
    (s.loop = .ps2Mouse → s.serviced .mouse = false → step s = .next { s' with loop := .periodic })

/-- R338, R374: no instruction stops the machine, in any state. -/
def Obligations.NoInstructionStops : Prop := ∀ (i : Instr) (s : State), ∃ t, exec i s = .next t

/-! ### The dispatcher and the commands -/

/-- R157, R180: `DISPATCH` on a request taken from the bytes of `f` has the effect of the row that the bytes decode to, and ends
with an empty latch and a response to emit. -/
def Obligations.DispatchRunsTheDecodedRow : Prop :=
  ∀ (s : State) (f : Frame), s.disp = .dispatching → s.req = some (decodeRequest s.cfg f) →
    ∃ t, exec .dispatch s = .next t ∧ exec (decodeFrame s.cfg f) s = .next t ∧ t.req = none ∧ t.disp = .responding

/-- R157, R331, R332, R346: a bad CRC and an abandoned request are answered with their bare codes and have no other effect. -/
def Obligations.ErrorOutcomesOnlyAnswer : Prop :=
  ∀ (s : State) (f : Frame), s.cfg.WF →
    exec (.crcMismatch f) s = .next (s.answered s.cfg.stCrcError) ∧
    (s.disp = .dispatching → s.req = some .crcErr → exec .dispatch s = .next (s.answered s.cfg.stCrcError)) ∧
    (s.disp = .dispatching → s.req = some .timeout → exec .dispatch s = .next (s.answered s.cfg.stTimeoutError))

/-- R181: `ping` is answered OK and does nothing else.  The whole next state is that of `DISPATCH` (R157, R218): that the row
itself empties the latch and goes to Responding is log entry 15, and that `crc` is left at the response's CRC log entry 16. -/
def Obligations.PingAnswersOk : Prop :=
  ∀ (s : State) (m x0 x1 x2 x3 : Byte), s.cfg.WF → s.accepts m → exec (.ping m x0 x1 x2 x3) s = .next s.answeredOk

/-- R191: `repeat_last` composes nothing: the cache stays, and the emission that follows sends it. -/
def Obligations.RepeatLastKeepsTheCache : Prop :=
  ∀ (s : State) (m x0 x1 x2 x3 : Byte), s.accepts m →
    exec (.repeatLast m x0 x1 x2 x3) s = .next { s with req := none, disp := .responding }

/-- R182, R183: on a build with dynamic configuration the selection under the command's own mask is stored in the record, the rest
of the stored selection stays, and the reset-required flag is set before the OK response is composed; on any other build the
response is all.  Where writes are not atomic the write opens the window in which a restart tears it, and leaves the window alone
where they are (R318; `nvTorn` is the model's field of log entry 7). -/
def Obligations.SetBackendUpdatesTheRecord : Prop :=
  ∀ (s : State) (m bits x1 x2 x3 old : Byte), s.cfg.WF → s.accepts m →
    (s.recordValid → old = s.nv.b1) → (¬s.recordValid → old = 0#8) →
    (s.cfg.dynamicSupported = true →
      let torn := if s.cfg.nvWriteAtomic then s.nvTorn else some s.nv
      exec (.setKeyboardBackend m bits x1 x2 x3) s = .next ({ s with
        nv := s.record ((old &&& ~~~s.cfg.bkKbdMask) ||| (bits &&& s.cfg.bkKbdMask))
        resetRequired := true
        nvTorn := torn } : State).answeredOk ∧
      exec (.setMouseBackend m bits x1 x2 x3) s = .next ({ s with
        nv := s.record ((old &&& ~~~s.cfg.bkMouseMask) ||| (bits &&& s.cfg.bkMouseMask))
        resetRequired := true
        nvTorn := torn } : State).answeredOk) ∧
    (s.cfg.dynamicSupported = false →
      exec (.setKeyboardBackend m bits x1 x2 x3) s = .next s.answeredOk ∧
      exec (.setMouseBackend m bits x1 x2 x3) s = .next s.answeredOk)

/-- R184: on a connectable board the board is called with the operand as a Boolean; on any other board the response is all.  That
the connection state follows the call at once, so that the response reports it, is the model's reading (log entry 9). -/
def Obligations.SetUsbConnectedCallsTheBoard : Prop :=
  ∀ (s : State) (m flag x1 x2 x3 : Byte), s.cfg.WF → s.accepts m →
    (s.cfg.vbusConnectable = true → exec (.setUsbConnected m flag x1 x2 x3) s = .next ({ s with
      out := s.out ++ [.call (.setVbusConnected (decide (flag ≠ 0#8)))]
      env := { s.env with vbusConnected := decide (flag ≠ 0#8) } } : State).answeredOk) ∧
    (s.cfg.vbusConnectable = false → exec (.setUsbConnected m flag x1 x2 x3) s = .next s.answeredOk)

/-- R185, R186: `clear_all` calls both drivers, keyboard first; `key_event` calls the keyboard driver with the code unchanged and
any non-zero byte as pressed, and with a PS/2 keyboard driver the call ends in `KBD.KEYSEQ`. -/
def Obligations.KeyboardCommandsCallTheirDrivers : Prop :=
  ∀ (s : State) (m code pressed x0 x1 x2 x3 : Byte), s.cfg.WF → s.accepts m →
    exec (.clearAll m x0 x1 x2 x3) s = .next ({ s with out := s.out ++ [.call .kbdClear, .call .mouseClear] } : State).answeredOk ∧
    (let t : State := { s with out := s.out ++ [.call (.sendKey code (decide (pressed ≠ 0#8)))] }
     (s.env.kbdKind ≠ .ps2Keyboard → exec (.keyEvent m code pressed x2 x3) s = .next t.answeredOk) ∧
     (s.env.kbdKind = .ps2Keyboard → ∃ u, exec (.kbdKeyseq code (decide (pressed ≠ 0#8))) t = .next u ∧
      exec (.keyEvent m code pressed x2 x3) s = .next u.answeredOk))

/-- R187 to R190 with R102 to R105: each mouse command makes its one call with its operands, whatever driver is active: coordinates
merged big-endian and signed, deltas signed, the first wheel byte unused, and each button a (select, state) pair.  That each is
answered OK is decision D27 (R193); the rest of the next state is that of `DISPATCH` (R157, R218, log entries 15 and 16). -/
def Obligations.MouseCommandsCallTheMouse : Prop :=
  ∀ (s : State) (m p0 p1 p2 p3 : Byte), s.cfg.WF → s.accepts m →
    let called (c : Call) : State := { s with out := s.out ++ [.call c] }
    let button (b : ButtonPair) : ButtonState :=
      let p := if b.inByte1 then p1 else p0
      ⟨decide (p &&& b.select ≠ 0#8), decide (p &&& b.state ≠ 0#8)⟩
    exec (.mouseAbsoluteMove m p0 p1 p2 p3) s
      = .next (called (.sendMove (p0 ++ p1 : BitVec 16).toInt (p2 ++ p3 : BitVec 16).toInt)).answeredOk ∧
    exec (.mouseRelativeMove m p0 p1 p2 p3) s = .next (called (.sendRelative p0.toInt p1.toInt)).answeredOk ∧
    exec (.mouseWheel m p0 p1 p2 p3) s = .next (called (.sendWheel p1.toInt)).answeredOk ∧
    exec (.mouseButtonEvent m p0 p1 p2 p3) s = .next (called (.sendButtons (button s.cfg.btnLeft) (button s.cfg.btnRight)
      (button s.cfg.btnMiddle) (button s.cfg.btnWheelUp) (button s.cfg.btnWheelDown))).answeredOk

/-- R192: an unrecognised command is answered `INVALID_ERROR` and does nothing else.  The whole next state is that of `DISPATCH`
(R157, R218, log entries 15 and 16). -/
def Obligations.UnrecognisedAnswersInvalid : Prop :=
  ∀ (s : State) (m cmd x0 x1 x2 x3 : Byte), s.cfg.WF → s.accepts m →
    exec (.unrecognisedCommand m cmd x0 x1 x2 x3) s = .next (s.answered s.cfg.stInvalidError)

/-- R111, R343: under `MAGIC_POLICY = invalid` a request with a good CRC and a wrong magic byte is answered `INVALID_ERROR`, and
whatever command it carries does not run. -/
def Obligations.WrongMagicIsTurnedAway : Prop :=
  ∀ (s : State) (f : Frame), s.cfg.WF → s.cfg.magicPolicy = .invalid → crcCheck f = true → f.b0 ≠ s.cfg.requestMagic →
    exec (decodeFrame s.cfg f) s = .next (s.answered s.cfg.stInvalidError)

/-- R97: payload bytes at positions beyond the arity of the command have no effect. -/
def Obligations.PayloadBeyondTheArityIsIgnored : Prop :=
  ∀ (s : State) (f g : Frame), s.cfg.WF → crcCheck f = true → crcCheck g = true → f.b0 = g.b0 → f.b1 = g.b1 →
    (∀ k, k < arityOf s.cfg f.b1 → f.get (k + 2) = g.get (k + 2)) →
    exec (decodeFrame s.cfg f) s = exec (decodeFrame s.cfg g) s

/-! ### Emitting -/

/-- R160: on serial the cached eight bytes go out as one frame; on SPI they go to the shift buffer, and only once the earlier
response has left it.  While nothing has been composed since reset the bytes are unspecified (R220, decision D7): some frame goes out, and the counter
`draws` of log entry 3 may move.  The SPI arm is decision D11. -/
def Obligations.EmitSendsTheCache : Prop :=
  ∀ s : State, s.disp = .responding →
    (s.cfg.transport = .serial → s.lastValid = true →
      exec .frameEmit s = .next { s with out := s.out ++ [.txFrame s.lastResp], disp := .idle }) ∧
    (s.cfg.transport = .serial → s.lastValid = false →
      ∃ f n, exec .frameEmit s = .next { s with out := s.out ++ [.txFrame f], disp := .idle, draws := n }) ∧
    (s.cfg.transport = .spi → s.spiOut.b0 = 0#8 → s.lastValid = true →
      exec .frameEmit s = .next { s with spiOut := s.lastResp, spiOidx := 0, disp := .idle }) ∧
    (s.cfg.transport = .spi → s.spiOut.b0 = 0#8 → s.lastValid = false →
      ∃ f n, exec .frameEmit s = .next { s with spiOut := f, spiOidx := 0, disp := .idle, draws := n }) ∧
    (s.cfg.transport = .spi → s.spiOut.b0 ≠ 0#8 → exec .frameEmit s = .next s)

/-- R166: one exchanged byte: a ready response is shifted out and the input ignored; otherwise 0x00 goes out, and the input is
stored unless it is leading filler or a complete request waits. -/
def Obligations.SpiExchangesOneByte : Prop :=
  ∀ (s : State) (b : Byte), s.cfg.transport = .spi →
    (s.spiOut.b0 ≠ 0#8 → s.spiOidx ≠ 7 → exec (.spiExchange b) s = .next { s with
      out := s.out ++ [.spiOut (s.spiOut.get s.spiOidx.val)], spiOidx := s.spiOidx + 1 }) ∧
    (s.spiOut.b0 ≠ 0#8 → s.spiOidx = 7 → exec (.spiExchange b) s = .next { s with
      out := s.out ++ [.spiOut s.spiOut.b7], spiOidx := 0, spiOut := { s.spiOut with b0 := 0#8 } }) ∧
    (s.spiOut.b0 = 0#8 → s.rxIdx < 8 → (s.rxIdx ≠ 0 ∨ b ≠ 0#8) → exec (.spiExchange b) s = .next { s with
      out := s.out ++ [.spiOut 0#8], rxBuf := s.rxBuf.set s.rxIdx b, rxIdx := s.rxIdx + 1 }) ∧
    (s.spiOut.b0 = 0#8 → (8 ≤ s.rxIdx ∨ (s.rxIdx = 0 ∧ b = 0#8)) →
      exec (.spiExchange b) s = .next { s with out := s.out ++ [.spiOut 0#8] })

/-- V2.21: eight exchanges deliver a ready response in index order, whatever the master sends, and leave the block ready to
receive. -/
def Obligations.EightExchangesDeliverTheResponse : Prop :=
  ∀ (s : State) (ins : List Byte), s.cfg.transport = .spi → s.spiOut.b0 ≠ 0#8 → s.spiOidx = 0 → ins.length = 8 →
    execAll (ins.map .spiExchange) s
      = .next { s with out := s.out ++ s.spiOut.toList.map .spiOut, spiOut := { s.spiOut with b0 := 0#8 } }

/-- R161, R73, R222: any eight bytes that reach an idle block on the serial transport are answered with exactly one frame, after
the driver calls they cause; the block is idle again; the frame passes the CRC check once anything has been composed; and bytes
that fail the CRC check cause no call and no record write. -/
def Obligations.OneResponsePerRequest : Prop :=
  ∀ (s : State) (f : Frame), s.cfg.WF → s.cfg.transport = .serial → s.rxIdx = 0 → s.disp = .idle →
    (s.lastValid = true → crcCheck s.lastResp = true) →
    ∃ (t : State) (calls : List Call) (g : Frame),
      execAll (f.toList.map .frameRxbyte ++ [.frameTake, .dispatch, .frameEmit]) s = .next t ∧
      t.out = s.out ++ calls.map .call ++ [.txFrame g] ∧
      t.disp = .idle ∧ t.req = none ∧ t.rxIdx = 0 ∧
      (t.lastValid = true → g = t.lastResp ∧ crcCheck g = true) ∧
      (crcCheck f = false → calls = [] ∧ t.nv = s.nv ∧ t.resetRequired = s.resetRequired ∧ t.lastValid = true ∧
        g.b1 = s.cfg.stCrcError)

/-! ### Composing -/

/-- R212, R213, R214, R215, R218, R219: the response that a composition leaves in the cache, byte by byte; a repeat writes nothing,
and composing status 0 is a repeat (R118).  R218 gives four statuses: that any other one is composed bare is the model's choice (log
entry 23).  The guard on the connected bit of byte 3 is decision D12, bytes 2 and 3 of an error response are decision D6 (R216), and
that `crc` is left at the response's CRC is log entry 16. -/
def Obligations.ComposeWritesTheResponse : Prop :=
  ∀ (s : State) (st : Byte), st ≠ 0#8 →
    let c := s.cfg
    let e := s.env
    let on (cond : Bool) (mask : Byte) : Byte := if cond then mask else 0#8
    let status := if st = c.stOk then
        c.stOk ||| on s.resetRequired c.stResetRequired
          ||| on (decide (e.kbdKind ≠ .dummy) && e.kbdOffline) c.stKbdOffline
          ||| on (decide (e.kbdKind ≠ .dummy) && e.leds.caps) c.stLedCaps
          ||| on (decide (e.kbdKind ≠ .dummy) && e.leds.num) c.stLedNum
          ||| on (decide (e.kbdKind ≠ .dummy) && e.leds.scroll) c.stLedScroll
          ||| on (decide (e.mouseKind ≠ .dummy) && e.mouseOffline) c.stMouseOffline
      else st
    let backend := (e.kbdBackend &&& c.bkKbdMask) ||| (e.mouseBackend &&& c.bkMouseMask) ||| on c.dynamicSupported c.bkDynamic
    let caps := on c.hasUsb c.capHasUsb ||| on c.hasUsbCompat c.capHasUsbCompat ||| on c.hasPs2 c.capHasPs2
      ||| on c.vbusConnectable c.capVbusConnectable ||| on (c.vbusConnectable && e.vbusConnected) c.capVbusConnected
    let w := crcBlock [c.responseMagic, status, backend, caps, 0#8, 0#8]
    exec (.respCompose st) s = .next { s with
      crc := w
      lastResp := ⟨c.responseMagic, status, backend, caps, 0#8, 0#8, w.extractLsb' 8 8, w.extractLsb' 0 8⟩
      lastValid := true } ∧
    exec .respRepeat s = .next s ∧ exec (.respCompose 0#8) s = .next s

/-- R32, R212: from the status byte of an OK response each field can be read back, and an error response never shows the OK bit. -/
def Obligations.StatusFieldsReadBack : Prop :=
  ∀ s : State, s.cfg.WF →
    (∃ t, exec (.respCompose s.cfg.stOk) s = .next t ∧
      let shows (mask : Byte) : Prop := t.lastResp.b1 &&& mask = mask
      shows s.cfg.stOk ∧
      (shows s.cfg.stResetRequired ↔ s.resetRequired = true) ∧
      (shows s.cfg.stKbdOffline ↔ s.env.kbdKind ≠ .dummy ∧ s.env.kbdOffline = true) ∧
      (shows s.cfg.stMouseOffline ↔ s.env.mouseKind ≠ .dummy ∧ s.env.mouseOffline = true) ∧
      (shows s.cfg.stLedCaps ↔ s.env.kbdKind ≠ .dummy ∧ s.env.leds.caps = true) ∧
      (shows s.cfg.stLedNum ↔ s.env.kbdKind ≠ .dummy ∧ s.env.leds.num = true) ∧
      (shows s.cfg.stLedScroll ↔ s.env.kbdKind ≠ .dummy ∧ s.env.leds.scroll = true)) ∧
    ∀ st ∈ s.cfg.errorCodes, ∃ t, exec (.respCompose st) s = .next t ∧ t.lastResp.b1 = st ∧ st &&& s.cfg.stOk = 0#8

/-- R33, R34, R213, R214: from bytes 2 and 3 of any composed response the active selections, the dynamic flag and the
capabilities can be read back. -/
def Obligations.BackendAndCapsReadBack : Prop :=
  ∀ (s : State) (st : Byte), s.cfg.WF → st ≠ 0#8 → ∃ t, exec (.respCompose st) s = .next t ∧
    t.lastResp.b2 &&& s.cfg.bkKbdMask = s.env.kbdBackend &&& s.cfg.bkKbdMask ∧
    t.lastResp.b2 &&& s.cfg.bkMouseMask = s.env.mouseBackend &&& s.cfg.bkMouseMask ∧
    t.lastResp.b2 &&& s.cfg.bkDynamic = (if s.cfg.dynamicSupported then s.cfg.bkDynamic else 0#8) ∧
    let shows (mask : Byte) : Prop := t.lastResp.b3 &&& mask = mask
    (shows s.cfg.capHasUsb ↔ s.cfg.hasUsb = true) ∧
    (shows s.cfg.capHasUsbCompat ↔ s.cfg.hasUsbCompat = true) ∧
    (shows s.cfg.capHasPs2 ↔ s.cfg.hasPs2 = true) ∧
    (shows s.cfg.capVbusConnectable ↔ s.cfg.vbusConnectable = true) ∧
    (shows s.cfg.capVbusConnected ↔ s.cfg.vbusConnectable = true ∧ s.env.vbusConnected = true)

/-! ### The PS/2 transceiver -/

/-- R233, R258: a sample of a serviced channel changes that channel and nothing else, and remembers the clock level it saw. -/
def Obligations.SampleStaysOnItsChannel : Prop :=
  ∀ (s : State) (ch : Chan), s.serviced ch = true →
    ∃ c, exec (.ps2Sample ch) s = .next (s.setChan ch c) ∧ c.clkPrev = s.clkLine ch

/-- R238 to R243: the receive state machine, state by state, on a channel that is not sending. -/
def Obligations.ReceiverTakesOneSlotPerEdge : Prop :=
  ∀ (s : State) (ch : Chan), s.serviced ch = true →
    let c := s.chan ch
    let d := s.datLine ch
    let goes (c' : Channel) : Prop := exec (.ps2Sample ch) s = .next (s.setChan ch { c' with clkPrev := s.clkLine ch })
    c.txFsm = .txIdle →
    (c.clkPrev = true → s.clkLine ch = false →
      (c.rxFsm = .idle → d = false → goes { c with rxFsm := .startBit }) ∧
      (c.rxFsm = .idle → d = true → goes c) ∧
      (c.rxFsm = .startBit → goes { c with rxShift := setBit c.rxShift 0 d, rxFsm := .dataBits 0 }) ∧
      (∀ i : Fin 8, c.rxFsm = .dataBits i → i.val < 7 →
        goes { c with rxShift := setBit c.rxShift (i.val + 1) d, rxFsm := .dataBits (i + 1) }) ∧
      (c.rxFsm = .dataBits 7 → goes { c with rxPar := d, rxFsm := .parity }) ∧
      (c.rxFsm = .parity →
        let good := d = true ∧ (popcount c.rxShift + c.rxPar.toNat) % 2 = 1
        (good → c.rxLatch = none → goes { c with rxLatch := some c.rxShift, rxFsm := .stopBit }) ∧
        (good → c.rxLatch ≠ none → goes { c with rxOverrun := true, rxFsm := .stopBit }) ∧
        (¬good → goes { c with rxErr := true, rxFsm := .stopBit }))) ∧
    (¬(c.clkPrev = true ∧ s.clkLine ch = false) → c.rxFsm ≠ .idle → c.rxFsm ≠ .stopBit → goes c) ∧
    (c.rxFsm = .stopBit → s.clkLine ch = false → goes c) ∧
    (c.rxFsm = .stopBit → s.clkLine ch = true →
      (c.clkPrev = false ∨ d = false ∨ c.txq = [] → goes { c with rxFsm := .idle }) ∧
      (∀ b q, c.clkPrev = true → d = true → c.txq = b :: q → goes { c with
        rxFsm := .idle, txq := q, txByte := b, txFsm := .txSlot 0 .setup, clkPull := false, datPull := true }))

/-- R245 to R249: the transmit state machine, state by state. -/
def Obligations.TransmitterDrivesOneSlotInTwoPhases : Prop :=
  ∀ (s : State) (ch : Chan), s.serviced ch = true →
    let c := s.chan ch
    let clk := s.clkLine ch
    let d := s.datLine ch
    let goes (c' : Channel) : Prop := exec (.ps2Sample ch) s = .next (s.setChan ch { c' with clkPrev := clk })
    let collision : Prop := (c.clkPull = false ∧ clk = false) ∨ (c.datPull = false ∧ d = false)
    (c.txFsm = .txIdle → c.rxFsm = .idle →
      (∀ b q, c.txq = b :: q → clk = true → d = true → c.clkPrev = true →
        goes { c with txq := q, txByte := b, txFsm := .txSlot 0 .setup, clkPull := false, datPull := true }) ∧
      ((clk = true ∧ (c.txq = [] ∨ d = false)) ∨ c.clkPrev = false → goes c)) ∧
    (∀ (k : Fin 11) (ph : Phase), c.txFsm = .txSlot k ph → collision →
      goes { c with clkPull := false, datPull := false, txFsm := .txIdle, txCollision := true }) ∧
    (∀ k : Fin 11, c.txFsm = .txSlot k .setup → ¬collision → goes { c with clkPull := true, txFsm := .txSlot k .low }) ∧
    (∀ k : Fin 11, c.txFsm = .txSlot k .low → k.val < 10 → ¬collision →
      goes { c with clkPull := false, datPull := !(wire c.txByte).getLsbD (k.val + 1), txFsm := .txSlot (k + 1) .setup }) ∧
    (c.txFsm = .txSlot 10 .low → ¬collision → goes { c with clkPull := false, datPull := false, txFsm := .txIdle })

/-- R234, R257: THE RECEIVE CONTRACT.  A target that puts eleven slots beginning with a start bit on a quiet channel, one falling
edge per slot, leaves exactly what the byte-level step `PS2.RXFRAME` leaves; for the wire frame of a byte that is the byte in the
latch, or an overrun. -/
def Obligations.TargetFrameArrivesAsItsByte : Prop :=
  ∀ (s : State) (ch : Chan) (w : BitVec 11), s.serviced ch = true → (s.chan ch).Quiet → w.getLsbD 0 = false →
    s.sched = targetSends ch w →
    ∃ t u, runSteps 44 s = .next t ∧ exec (.ps2Rxframe ch w) s = .next u ∧
      t.chan ch = { u.chan ch with rxShift := wireData w, rxPar := w.getLsbD 9 } ∧ t.sched = [] ∧
      (∀ b, w = wire b → (s.chan ch).rxLatch = none → (t.chan ch).rxLatch = some b) ∧
      (∀ b, w = wire b → ∀ b', (s.chan ch).rxLatch = some b' → (t.chan ch).rxLatch = some b' ∧ (t.chan ch).rxOverrun = true)

/-- R235, R257: THE TRANSMIT CONTRACT.  While the target keeps both lines released, the head of the queue of a quiet channel leaves
as its wire frame: in 23 samples the clock falls eleven times, at the k-th falling edge the data line carries slot k of the frame
and has carried it for one sample, and the channel is quiet again but for the clock level last seen. -/
def Obligations.QueuedByteLeavesAsItsFrame : Prop :=
  ∀ (s : State) (ch : Chan) (b : Byte) (q : List Byte), s.serviced ch = true → (s.chan ch).Quiet →
    (s.chan ch).txq = b :: q → s.targetQuiet ch →
    (∀ k : Fin 11, ∃ u v,
      execAll (List.replicate (2 * k.val + 1) (.ps2Sample ch)) s = .next u ∧
      execAll (List.replicate (2 * k.val + 2) (.ps2Sample ch)) s = .next v ∧
      u.clkLine ch = true ∧ u.datLine ch = (wire b).getLsbD k.val ∧
      v.clkLine ch = false ∧ v.datLine ch = (wire b).getLsbD k.val) ∧
    execAll (List.replicate 23 (.ps2Sample ch)) s
      = .next (s.setChan ch { s.chan ch with txq := q, txByte := b, clkPrev := false })

/-- R244, R251: taking empties the latch and returns its byte; enqueueing appends, or drops and flags on a full queue. -/
def Obligations.TakeAndEnqueue : Prop :=
  ∀ (s : State) (ch : Chan) (b : Byte),
    ((s.chan ch).rxLatch = some b →
      exec (.ps2Take ch) s = .next { s.setChan ch { s.chan ch with rxLatch := none } with result := .byte b }) ∧
    ((s.chan ch).txq.length < s.cfg.ps2TxqDepth →
      exec (.ps2Enqueue ch b) s = .next (s.setChan ch { s.chan ch with txq := (s.chan ch).txq ++ [b] })) ∧
    (s.cfg.ps2TxqDepth ≤ (s.chan ch).txq.length →
      exec (.ps2Enqueue ch b) s = .next (s.setChan ch { s.chan ch with txqOverflow := true }))

/-- R257: the byte-level substitutes, on a serviced channel on which no frame is half received or half sent (log entry 18; elsewhere
they do nothing, StepsNotEnabledChangeNothing): a good frame is delivered, a frame with a start bit that is not good sets the error flag, eleven
bits without a start bit do nothing; and the head of the queue leaves as its wire frame. -/
def Obligations.ByteLevelFrames : Prop :=
  ∀ (s : State) (ch : Chan) (b : Byte) (w : BitVec 11) (q : List Byte), s.serviced ch = true →
    (s.chan ch).rxFsm = .idle → (s.chan ch).txFsm = .txIdle →
    let c := s.chan ch
    (c.rxLatch = none → exec (.ps2Rxframe ch (wire b)) s = .next (s.setChan ch { c with rxLatch := some b })) ∧
    (c.rxLatch ≠ none → exec (.ps2Rxframe ch (wire b)) s = .next (s.setChan ch { c with rxOverrun := true })) ∧
    ((∀ b, w ≠ wire b) → w.getLsbD 0 = false →
      exec (.ps2Rxframe ch w) s = .next (s.setChan ch { c with rxErr := true })) ∧
    (w.getLsbD 0 = true → exec (.ps2Rxframe ch w) s = .next s) ∧
    (c.txq = b :: q → exec (.ps2Txframe ch) s
      = .next { s.setChan ch { c with txq := q } with out := s.out ++ [.wireFrame ch (wire b)] })

/-! ### The keyboard channel's logical layer -/

/-- R281 to R284, R287, R290 to R293, R251: the reply of each one-byte host command, in the order written, at the tail of the queue:
as much of it as fits, with the overflow flag set when some of it does not; and no other effect.  Resend draws no reply (decision
D18), and Reset has no effect but its reply (decision D21).  What a full queue does is decision D17. -/
def Obligations.KeyboardReplies : Prop :=
  ∀ (s : State) (b : Byte), s.kbd.txq.length ≤ s.cfg.ps2TxqDepth →
    exec .kbdReset s = .next (s.offered .kbd [0xFA#8, 0xAA#8]) ∧
    exec .kbdResend s = .next s ∧
    exec .kbdEcho s = .next (s.offered .kbd [0xEE#8]) ∧
    exec .kbdIdentify s = .next (s.offered .kbd [0xFA#8, 0xAB#8, 0x83#8]) ∧
    exec .kbdEnableScanning s = .next (s.offered .kbd [0xFA#8]) ∧
    exec .kbdDisable s = .next (s.offered .kbd [0xFA#8]) ∧
    exec .kbdDefault s = .next (s.offered .kbd [0xFA#8]) ∧
    exec (.kbdAnyOther b) s = .next (s.offered .kbd [0xFA#8]) ∧
    (s.room .kbd 3 → ∀ bs : List Byte, bs.length ≤ 3 → s.offered .kbd bs = s.queued .kbd bs)

/-- R285, R286, R288, R251: a two-byte command is acknowledged and awaits its parameter; the parameter, whatever its value, is
acknowledged where the build says so and ends the wait.  On a full queue the acknowledgement is dropped and flagged, and the wait
begins and ends all the same. -/
def Obligations.TwoByteHostCommands : Prop :=
  ∀ (s : State) (b : Byte), s.kbd.txq.length ≤ s.cfg.ps2TxqDepth →
    exec .kbdSetLeds s = .next { s.offered .kbd [0xFA#8] with kbdPend := some .ledParam } ∧
    exec .kbdSetTypematic s = .next { s.offered .kbd [0xFA#8] with kbdPend := some .typematicParam } ∧
    (s.cfg.ps2AckParam = true → exec (.kbdParameterByte b) s = .next { s.offered .kbd [0xFA#8] with kbdPend := none }) ∧
    (s.cfg.ps2AckParam = false → exec (.kbdParameterByte b) s = .next { s with kbdPend := none }) ∧
    (s.room .kbd 1 → s.offered .kbd [0xFA#8] = s.queued .kbd [0xFA#8])

/-- R280: `KBD.HOSTBYTE` takes the byte, which empties the latch, and has the effect of the row it decodes to, the test of the
awaited parameter first. -/
def Obligations.HostByteRunsTheDecodedRow : Prop :=
  ∀ (s : State) (b : Byte), s.kbd.rxLatch = some b →
    ∃ t, exec .kbdHostbyte s = .next t ∧
      exec (decodeHostByte s.kbdPend.isSome b) { s with kbd := { s.kbd with rxLatch := none } } = .next t ∧
      t.kbd.rxLatch = none

/-- R251, R293: on any queue within its bound a key sequence puts as many of its bytes as fit, in order, and flags the rest. -/
def Obligations.FullQueueCutsTheSequence : Prop :=
  ∀ (s : State) (code : Byte) (pressed : Bool), s.kbd.txq.length ≤ s.cfg.ps2TxqDepth →
    exec (.kbdKeyseq code pressed) s = .next (s.setChan .kbd { s.kbd with
      txq := (s.kbd.txq ++ keySequence s.cfg code pressed).take s.cfg.ps2TxqDepth
      txqOverflow := s.kbd.txqOverflow ||
        decide (s.cfg.ps2TxqDepth < s.kbd.txq.length + (keySequence s.cfg code pressed).length) })

/-- R294, R296: an ordinary key puts `[0xE0]? [0xF0]? code`; a key without an entry puts nothing; a special key puts its own sequence
and nothing of the general rule. -/
def Obligations.KeySequences : Prop :=
  ∀ (s : State) (code sc : Byte),
    (code ∉ s.cfg.ps2Special → s.cfg.ps2Scancode.lookup code = some sc → s.room .kbd 3 →
      (code ∉ s.cfg.ps2Extended → exec (.kbdKeyseq code true) s = .next (s.queued .kbd [sc])) ∧
      (code ∉ s.cfg.ps2Extended → exec (.kbdKeyseq code false) s = .next (s.queued .kbd [0xF0#8, sc])) ∧
      (code ∈ s.cfg.ps2Extended → exec (.kbdKeyseq code true) s = .next (s.queued .kbd [0xE0#8, sc])) ∧
      (code ∈ s.cfg.ps2Extended → exec (.kbdKeyseq code false) s = .next (s.queued .kbd [0xE0#8, 0xF0#8, sc]))) ∧
    (code ∉ s.cfg.ps2Special → s.cfg.ps2Scancode.lookup code = none →
      ∀ pressed, exec (.kbdKeyseq code pressed) s = .next s) ∧
    (code ∈ s.cfg.ps2Special → ∀ pressed bs, s.cfg.ps2SpecialSeq.lookup (code, pressed) = some bs → s.room .kbd bs.length →
      exec (.kbdKeyseq code pressed) s = .next (s.queued .kbd bs))

/-- T6 of the source, R295: the left-arrow key gives `[0xE0, 0x6B]` on press and `[0xE0, 0xF0, 0x6B]` on release, also when it
comes in as a `key_event` request to a PS/2 keyboard. -/
def Obligations.LeftArrowSequences : Prop :=
  ∀ (s : State) (m x2 x3 : Byte), s.cfg.WF → s.room .kbd 3 → s.env.kbdKind = .ps2Keyboard → s.accepts m →
    exec (.kbdKeyseq s.cfg.hidLeftArrow true) s = .next (s.queued .kbd [0xE0#8, 0x6B#8]) ∧
    exec (.kbdKeyseq s.cfg.hidLeftArrow false) s = .next (s.queued .kbd [0xE0#8, 0xF0#8, 0x6B#8]) ∧
    (∃ t, exec (.keyEvent m s.cfg.hidLeftArrow 1#8 x2 x3) s = .next t ∧ t.kbd.txq = s.kbd.txq ++ [0xE0#8, 0x6B#8]) ∧
    (∃ t, exec (.keyEvent m s.cfg.hidLeftArrow 0#8 x2 x3) s = .next t ∧ t.kbd.txq = s.kbd.txq ++ [0xE0#8, 0xF0#8, 0x6B#8])

/-! ### The record -/

/-- R312, R313, R314: reading validates; writing makes a whole record; an update with `force` writes `bits & mask`, without it the
old bits outside the mask stay, a failed read counting as 0.  A write that is not atomic leaves the old content behind, so that a
restart can tear it; an atomic one does not (R318; `nvTorn` is the model's field of log entry 7).  What the CRC register holds is left
open. -/
def Obligations.RecordReadWriteUpdate : Prop :=
  ∀ (s : State) (v mask bits : Byte),
    (s.recordValid → ∃ c, exec .recRead s = .next { s with crc := c, result := .outputs (some s.nv.b1) }) ∧
    (¬s.recordValid → ∃ c, exec .recRead s = .next { s with crc := c, result := .outputs none }) ∧
    (let wrote (i : Instr) (b : Byte) : Prop := ∃ c, exec i s = .next { s with
       nv := s.record b, crc := c, nvTorn := if s.cfg.nvWriteAtomic then s.nvTorn else some s.nv }
     wrote (.recWrite v) v ∧
     wrote (.recUpdate mask bits true) (bits &&& mask) ∧
     (s.recordValid → wrote (.recUpdate mask bits false) ((s.nv.b1 &&& ~~~mask) ||| (bits &&& mask))) ∧
     (¬s.recordValid → wrote (.recUpdate mask bits false) (bits &&& mask)))

/-- R316: a valid record is returned and not rewritten; otherwise the compiled-in default under both masks is written and
returned, by a write that can be torn where writes are not atomic (R318, log entry 7). -/
def Obligations.RecordInitResolves : Prop :=
  ∀ s : State,
    (s.recordValid → ∃ c, exec .recInit s = .next { s with crc := c, result := .byte s.nv.b1 }) ∧
    (¬s.recordValid →
      let v := s.cfg.defaultOutputs &&& (s.cfg.bkKbdMask ||| s.cfg.bkMouseMask)
      ∃ c, exec .recInit s = .next { s with
        nv := s.record v, crc := c, nvTorn := if s.cfg.nvWriteAtomic then s.nvTorn else some s.nv, result := .byte v })

/-- R317, T3 of the source: an update under one of the two masks leaves the other selection as it was and a valid record behind. -/
def Obligations.SelectionsAreIndependent : Prop :=
  ∀ (s : State) (bits : Byte), s.cfg.WF → s.recordValid →
    (∃ t, exec (.recUpdate s.cfg.bkKbdMask bits false) s = .next t ∧ t.recordValid ∧
      t.nv.b1 &&& s.cfg.bkMouseMask = s.nv.b1 &&& s.cfg.bkMouseMask ∧
      t.nv.b1 &&& s.cfg.bkKbdMask = bits &&& s.cfg.bkKbdMask) ∧
    (∃ t, exec (.recUpdate s.cfg.bkMouseMask bits false) s = .next t ∧ t.recordValid ∧
      t.nv.b1 &&& s.cfg.bkKbdMask = s.nv.b1 &&& s.cfg.bkKbdMask ∧
      t.nv.b1 &&& s.cfg.bkMouseMask = bits &&& s.cfg.bkMouseMask)

/-- T4 of the source, R141, R312, R371: a corrupted, cleared or erased record reads as absent, and the boot that follows leaves a
valid record with the default and runs on it; the next boot finds it and writes nothing. -/
def Obligations.CorruptRecordRecovers : Prop :=
  ∀ s : State,
    (s.nv = ⟨0#8, 0#8, 0#8, 0#8, 0#8, 0#8, 0#8, 0#8⟩ ∨ s.nv = ⟨0xFF#8, 0xFF#8, 0xFF#8, 0xFF#8, 0xFF#8, 0xFF#8, 0xFF#8, 0xFF#8⟩ ∨
      s.nv.b0 ≠ s.cfg.storageMagic →
      ∃ t, exec .recRead s = .next t ∧ t.result = .outputs none ∧ t.nv = s.nv) ∧
    (¬s.recordValid → s.nextEvent = .main → s.loop = .boot →
      ∃ t, step s = .next t ∧ t.recordValid ∧
        t.nv.b1 = s.cfg.defaultOutputs &&& (s.cfg.bkKbdMask ||| s.cfg.bkMouseMask) ∧
        t.env.kbdBackend = t.nv.b1 &&& s.cfg.bkKbdMask ∧ t.env.mouseBackend = t.nv.b1 &&& s.cfg.bkMouseMask) ∧
    (s.recordValid → s.nextEvent = .main → s.loop = .boot → ∃ t, step s = .next t ∧ t.nv = s.nv)

/-! ### Reset, boot, restart and the whole machine -/

/-- R371: the boot sequence resolves the record, fixes the two selections, instantiates the drivers ("none" gives Dummy), calls
`begin()` on each, and enters the loop.  That a PS/2 selection gives the PS/2 driver on a build that has it is the model's reading
(log entry 12, DEDUCED); which driver any other selection gives is left open. -/
def Obligations.BootInstantiatesTheDrivers : Prop :=
  ∀ (s u : State) (v : Byte), s.nextEvent = .main → s.loop = .boot →
    exec .recInit { s with sched := s.sched.tail, nvTorn := none } = .next u → u.result = .byte v →
    ∃ t, step s = .next t ∧ t.loop = .periodic ∧ t.nv = u.nv ∧
      t.out = s.out ++ [.call .kbdBegin, .call .mouseBegin] ∧
      t.env.kbdBackend = v &&& s.cfg.bkKbdMask ∧ t.env.mouseBackend = v &&& s.cfg.bkMouseMask ∧
      (t.env.kbdBackend = s.cfg.kbdNone → t.env.kbdKind = .dummy) ∧
      (t.env.mouseBackend = s.cfg.mouseNone → t.env.mouseKind = .dummy) ∧
      (s.cfg.WF → s.cfg.hasPs2 = true → t.env.kbdBackend = s.cfg.kbdPs2 → t.env.kbdKind = .ps2Keyboard) ∧
      (s.cfg.WF → s.cfg.hasPs2 = true → t.env.mouseBackend = s.cfg.mousePs2 → t.env.mouseKind = .ps2Mouse) ∧
      t.resetRequired = s.resetRequired ∧ t.kbd = s.kbd ∧ t.mouse = s.mouse ∧ t.rxIdx = s.rxIdx ∧ t.disp = s.disp

/-- R370, R40, R318: a restart puts all volatile state at its reset values and keeps the record, or, where a write that is not
atomic was under way, leaves each byte of it old or new. -/
def Obligations.RestartKeepsOnlyTheRecord : Prop :=
  ∀ (s : State) (landed : Byte), s.nextEvent = .restart landed → ∃ t, step s = .next t ∧
    t.rxIdx = 0 ∧ t.req = none ∧ t.disp = .idle ∧ t.lastValid = false ∧ t.spiOut.b0 = 0#8 ∧ t.spiOidx = 0 ∧
    t.resetRequired = false ∧ t.rxOverrunFrame = false ∧ t.kbdPend = none ∧ t.loop = .boot ∧ t.cfg = s.cfg ∧
    (∀ ch, (t.chan ch).Quiet ∧ (t.chan ch).txq = [] ∧ (t.chan ch).rxLatch = none ∧ (t.chan ch).faultFree = true) ∧
    (s.nvTorn = none → t.nv = s.nv) ∧
    (∀ old, s.nvTorn = some old → ∀ k < 8, t.nv.get k = if landed.getLsbD k then s.nv.get k else old.get k)

/-- R40: the reset values that the spec gives. -/
def Obligations.ResetValues : Prop :=
  let s := State.reset
  s.rxIdx = 0 ∧ s.req = none ∧ s.disp = .idle ∧ s.lastValid = false ∧ s.spiOut.b0 = 0#8 ∧ s.spiOidx = 0 ∧
  s.resetRequired = false ∧ s.rxOverrunFrame = false ∧ s.kbdPend = none ∧
  ∀ ch, (s.chan ch).rxFsm = .idle ∧ (s.chan ch).rxLatch = none ∧ (s.chan ch).txFsm = .txIdle ∧ (s.chan ch).txq = [] ∧
    (s.chan ch).clkPull = false ∧ (s.chan ch).datPull = false ∧ (s.chan ch).clkPrev = true ∧ (s.chan ch).rxErr = false ∧
    (s.chan ch).rxOverrun = false ∧ (s.chan ch).txqOverflow = false ∧ (s.chan ch).txCollision = false

/-- The invariant holds after reset, on `P_REF` (log entry 1). -/
def Obligations.ResetMeetsTheInvariant : Prop := Inv State.reset

/-- THE INVARIANT: whatever event comes next, a step from a state that meets the invariant ends in one that meets it.  It says that
the latch is full exactly while dispatching (R22), that the cache holds a well-composed response once filled (R222), that each
queue respects its bound (R250), that a sending channel carries its frame's bits and a channel that is not sending has released
both released both lines (R245 to R249), that an unserviced channel stands still with released lines and an empty queue (R233), and that a build without a feature shows no trace of
it (R182, R332, R318). -/
def Obligations.EveryStepKeepsTheInvariant : Prop := ∀ s t : State, Inv s → step s = .next t → Inv t

/-- R341, R350, R74: an interrupt routine (`FRAME.RXBYTE`, `SPI.EXCHANGE`, `PS2.SAMPLE`, `PS2.RXFRAME`, `PS2.TXFRAME`) computes no CRC, calls no driver and touches neither the cache, nor the record, nor the
flag, nor the dispatcher, nor the drivers; its only outputs are the SPI byte and, at the byte level, a wire frame. -/
def Obligations.InterruptStepsStayInTheirBuffers : Prop :=
  ∀ (i : Instr) (s t : State),
    ((∃ b, i = .frameRxbyte b) ∨ (∃ b, i = .spiExchange b) ∨ (∃ ch, i = .ps2Sample ch) ∨ (∃ ch w, i = .ps2Rxframe ch w) ∨
      ∃ ch, i = .ps2Txframe ch) → exec i s = .next t →
    t.crc = s.crc ∧ t.lastResp = s.lastResp ∧ t.lastValid = s.lastValid ∧ t.nv = s.nv ∧ t.resetRequired = s.resetRequired ∧
    t.req = s.req ∧ t.disp = s.disp ∧ t.kbdPend = s.kbdPend ∧ t.cfg = s.cfg ∧
    ({ t.env with timeoutElapsed := s.env.timeoutElapsed } : Env) = s.env ∧
    ∃ o : List Output, t.out = s.out ++ o ∧ ∀ x ∈ o, (∃ b, x = .spiOut b) ∨ (∃ ch w, x = .wireFrame ch w)

/-- R29, R319, R78, R77: until a restart the reset-required flag once set stays set, and after boot the active drivers and
selections never change; the build's parameters and tables never change at all. -/
def Obligations.OnlyARestartChangesTheDrivers : Prop :=
  ∀ s t : State, step s = .next t →
    t.cfg = s.cfg ∧
    ((∀ landed, s.nextEvent ≠ .restart landed) →
      (s.resetRequired = true → t.resetRequired = true) ∧
      (s.loop ≠ .boot → t.env.kbdKind = s.env.kbdKind ∧ t.env.mouseKind = s.env.mouseKind ∧
        t.env.kbdBackend = s.env.kbdBackend ∧ t.env.mouseBackend = s.env.mouseBackend))

end Statements
end

