-- ==== Sys2Proof/Laws/Crc.lean ====
section
/-! SUPPORT. Laws of the byte order, the frame's byte view, the wire format and the CRC. -/

namespace Sys2Proof

/-- Splitting a word and merging it again (R10). -/
@[simp] theorem merge16_hi_lo (w : Word) : merge16 (hiByte w) (loByte w) = w := by
  unfold merge16 hiByte loByte
  ext i hi
  simp only [BitVec.getElem_append, BitVec.getElem_extractLsb']
  split
  · simp [BitVec.getLsbD_eq_getElem hi]
  · rename_i h
    rw [show 8 + (i - 8) = i by omega, BitVec.getLsbD_eq_getElem hi]

/-- The high byte of a merged word. -/
@[simp] theorem hiByte_merge16 (hi lo : Byte) : hiByte (merge16 hi lo) = hi := by
  unfold merge16 hiByte
  ext i h
  simp only [BitVec.getElem_extractLsb', BitVec.getLsbD_append]
  simp [BitVec.getLsbD_eq_getElem h]

/-- The low byte of a merged word. -/
@[simp] theorem loByte_merge16 (hi lo : Byte) : loByte (merge16 hi lo) = lo := by
  unfold merge16 loByte
  ext i h
  simp only [BitVec.getElem_extractLsb', BitVec.getLsbD_append]
  simp [h]

@[simp] theorem crcAppend_six (h : Six) : (crcAppend h).six = h := rfl
@[simp] theorem crcAppend_b0 (h : Six) : (crcAppend h).b0 = h.b0 := rfl
@[simp] theorem crcAppend_b1 (h : Six) : (crcAppend h).b1 = h.b1 := rfl
@[simp] theorem crcAppend_b2 (h : Six) : (crcAppend h).b2 = h.b2 := rfl
@[simp] theorem crcAppend_b3 (h : Six) : (crcAppend h).b3 = h.b3 := rfl
@[simp] theorem crcAppend_b4 (h : Six) : (crcAppend h).b4 = h.b4 := rfl
@[simp] theorem crcAppend_b5 (h : Six) : (crcAppend h).b5 = h.b5 := rfl

/-- What `CRC16.APPEND` makes, `CRC16.CHECK` accepts. -/
@[simp] theorem crcCheck_crcAppend (h : Six) : crcCheck (crcAppend h) = true := by
  simp [crcCheck, crcAppend, Frame.six]

/-- A unit that passes the check is the appended form of its first six bytes. -/
theorem crcAppend_of_check {f : Frame} (h : crcCheck f = true) : crcAppend f.six = f := by
  have e : crcSix f.six = merge16 f.b6 f.b7 := by simpa [crcCheck] using h
  cases f
  simp_all [crcAppend, Frame.six]

/-- Only an appended form passes the check. -/
theorem crcCheck_iff {f : Frame} : crcCheck f = true ↔ f = crcAppend f.six :=
  ⟨fun h => (crcAppend_of_check h).symm, fun h => h ▸ crcCheck_crcAppend _⟩

/-- Consuming one more byte at the end. -/
theorem crcBlock_append (data : List Byte) (b : Byte) : crcBlock (data ++ [b]) = crcByte (crcBlock data) b := by
  simp [crcBlock]

@[simp] theorem crcBlock_nil : crcBlock [] = crcSeed := rfl

/-- The start slot of a wire frame is 0. -/
@[simp] theorem wire_start (d : Byte) : (wire d).getLsbD 0 = false := by
  unfold wire
  rw [BitVec.getLsbD_append]
  rfl

/-- The data slots of a wire frame carry the byte, least significant bit first. -/
@[simp] theorem wireData_wire (d : Byte) : wireData (wire d) = d := by
  unfold wireData wire
  ext i h
  simp only [BitVec.getElem_extractLsb', BitVec.getLsbD_append]
  simp [show ¬(1 + i < 1) by omega, show 1 + i - 1 = i by omega, h]

/-- Different bytes have different wire frames. -/
theorem wire_inj {a b : Byte} (h : wire a = wire b) : a = b := by
  rw [← wireData_wire a, h, wireData_wire]

@[simp] theorem Frame.toList_length (f : Frame) : f.toList.length = 8 := rfl

/-- Equal byte lists are equal units. -/
theorem Frame.toList_inj {f g : Frame} (h : f.toList = g.toList) : f = g := by
  cases f; cases g; simpa [Frame.toList] using h

/-- A byte written is the byte read. -/
theorem Frame.get_set_same (f : Frame) {k : Nat} (hk : k < 8) (b : Byte) : (f.set k b).get k = b := by
  interval_cases k <;> rfl

/-- A write leaves every other byte alone. -/
theorem Frame.get_set_ne (f : Frame) {k j : Nat} (h : j ≠ k) (b : Byte) : (f.set k b).get j = f.get j := by
  by_cases hk : k < 8
  · interval_cases k <;>
    (match j, h with
      | 0, _ => first | rfl | contradiction
      | 1, _ => first | rfl | contradiction
      | 2, _ => first | rfl | contradiction
      | 3, _ => first | rfl | contradiction
      | 4, _ => first | rfl | contradiction
      | 5, _ => first | rfl | contradiction
      | 6, _ => first | rfl | contradiction
      | 7, _ => first | rfl | contradiction
      | _ + 8, _ => rfl)
  · match k, hk with
    | _ + 8, _ => rfl

/-- A unit is determined by its eight bytes. -/
theorem Frame.ext_get {f g : Frame} (h : ∀ k < 8, f.get k = g.get k) : f = g := by
  have h0 := h 0 (by omega); have h1 := h 1 (by omega); have h2 := h 2 (by omega); have h3 := h 3 (by omega)
  have h4 := h 4 (by omega); have h5 := h 5 (by omega); have h6 := h 6 (by omega); have h7 := h 7 (by omega)
  cases f; cases g
  simp [Frame.get, Frame.toList] at h0 h1 h2 h3 h4 h5 h6 h7
  simp [*]

end Sys2Proof
end

