-- ==== Sys2Proof/Laws/State.lean ====
section
/-! SUPPORT. One lemma per field and update of the state, so that no proof unfolds a record update: for each shared operation,
what every field it does not write reads afterwards, and what the fields it writes read. -/

namespace Sys2Proof.Machine

variable (s : State)

/-! ### Channels -/

@[simp] theorem State.chan_kbd : s.chan .kbd = s.kbd := rfl
@[simp] theorem State.chan_mouse : s.chan .mouse = s.mouse := rfl
@[simp] theorem State.setChan_kbd_kbd (c : Channel) : (s.setChan .kbd c).kbd = c := rfl
@[simp] theorem State.setChan_kbd_mouse (c : Channel) : (s.setChan .kbd c).mouse = s.mouse := rfl
@[simp] theorem State.setChan_mouse_mouse (c : Channel) : (s.setChan .mouse c).mouse = c := rfl
@[simp] theorem State.setChan_mouse_kbd (c : Channel) : (s.setChan .mouse c).kbd = s.kbd := rfl
@[simp] theorem State.chan_setChan (ch : Chan) (c : Channel) : (s.setChan ch c).chan ch = c := by cases ch <;> rfl
theorem State.chan_setChan_ne (ch ch' : Chan) (c : Channel) (h : ch' ≠ ch) : (s.setChan ch c).chan ch' = s.chan ch' := by
  cases ch <;> cases ch' <;> first | rfl | exact absurd rfl h
@[simp] theorem State.setChan_setChan (ch : Chan) (c c' : Channel) : (s.setChan ch c).setChan ch c' = s.setChan ch c' := by
  cases ch <;> rfl
@[simp] theorem State.setChan_chan (ch : Chan) : s.setChan ch (s.chan ch) = s := by cases ch <;> rfl

/-! ### `setChan` -/

@[simp] theorem State.setChan_cfg (ch : Chan) (c : Channel) : (s.setChan ch c).cfg = s.cfg := by cases ch <;> rfl
@[simp] theorem State.setChan_crc (ch : Chan) (c : Channel) : (s.setChan ch c).crc = s.crc := by cases ch <;> rfl
@[simp] theorem State.setChan_rxBuf (ch : Chan) (c : Channel) : (s.setChan ch c).rxBuf = s.rxBuf := by cases ch <;> rfl
@[simp] theorem State.setChan_rxIdx (ch : Chan) (c : Channel) : (s.setChan ch c).rxIdx = s.rxIdx := by cases ch <;> rfl
@[simp] theorem State.setChan_req (ch : Chan) (c : Channel) : (s.setChan ch c).req = s.req := by cases ch <;> rfl
@[simp] theorem State.setChan_disp (ch : Chan) (c : Channel) : (s.setChan ch c).disp = s.disp := by cases ch <;> rfl
@[simp] theorem State.setChan_lastResp (ch : Chan) (c : Channel) : (s.setChan ch c).lastResp = s.lastResp := by cases ch <;> rfl
@[simp] theorem State.setChan_lastValid (ch : Chan) (c : Channel) : (s.setChan ch c).lastValid = s.lastValid := by cases ch <;> rfl
@[simp] theorem State.setChan_spiOut (ch : Chan) (c : Channel) : (s.setChan ch c).spiOut = s.spiOut := by cases ch <;> rfl
@[simp] theorem State.setChan_spiOidx (ch : Chan) (c : Channel) : (s.setChan ch c).spiOidx = s.spiOidx := by cases ch <;> rfl
@[simp] theorem State.setChan_nv (ch : Chan) (c : Channel) : (s.setChan ch c).nv = s.nv := by cases ch <;> rfl
@[simp] theorem State.setChan_resetRequired (ch : Chan) (c : Channel) : (s.setChan ch c).resetRequired = s.resetRequired := by cases ch <;> rfl
@[simp] theorem State.setChan_rxOverrunFrame (ch : Chan) (c : Channel) : (s.setChan ch c).rxOverrunFrame = s.rxOverrunFrame := by cases ch <;> rfl
@[simp] theorem State.setChan_kbdPend (ch : Chan) (c : Channel) : (s.setChan ch c).kbdPend = s.kbdPend := by cases ch <;> rfl
@[simp] theorem State.setChan_env (ch : Chan) (c : Channel) : (s.setChan ch c).env = s.env := by cases ch <;> rfl
@[simp] theorem State.setChan_loop (ch : Chan) (c : Channel) : (s.setChan ch c).loop = s.loop := by cases ch <;> rfl
@[simp] theorem State.setChan_result (ch : Chan) (c : Channel) : (s.setChan ch c).result = s.result := by cases ch <;> rfl
@[simp] theorem State.setChan_out (ch : Chan) (c : Channel) : (s.setChan ch c).out = s.out := by cases ch <;> rfl
@[simp] theorem State.setChan_draws (ch : Chan) (c : Channel) : (s.setChan ch c).draws = s.draws := by cases ch <;> rfl
@[simp] theorem State.setChan_nvTorn (ch : Chan) (c : Channel) : (s.setChan ch c).nvTorn = s.nvTorn := by cases ch <;> rfl
@[simp] theorem State.setChan_sched (ch : Chan) (c : Channel) : (s.setChan ch c).sched = s.sched := by cases ch <;> rfl

/-! ### `call` -/

@[simp] theorem State.call_cfg (c : Call) : (s.call c).cfg = s.cfg := rfl
@[simp] theorem State.call_crc (c : Call) : (s.call c).crc = s.crc := rfl
@[simp] theorem State.call_rxBuf (c : Call) : (s.call c).rxBuf = s.rxBuf := rfl
@[simp] theorem State.call_rxIdx (c : Call) : (s.call c).rxIdx = s.rxIdx := rfl
@[simp] theorem State.call_req (c : Call) : (s.call c).req = s.req := rfl
@[simp] theorem State.call_disp (c : Call) : (s.call c).disp = s.disp := rfl
@[simp] theorem State.call_lastResp (c : Call) : (s.call c).lastResp = s.lastResp := rfl
@[simp] theorem State.call_lastValid (c : Call) : (s.call c).lastValid = s.lastValid := rfl
@[simp] theorem State.call_spiOut (c : Call) : (s.call c).spiOut = s.spiOut := rfl
@[simp] theorem State.call_spiOidx (c : Call) : (s.call c).spiOidx = s.spiOidx := rfl
@[simp] theorem State.call_nv (c : Call) : (s.call c).nv = s.nv := rfl
@[simp] theorem State.call_resetRequired (c : Call) : (s.call c).resetRequired = s.resetRequired := rfl
@[simp] theorem State.call_rxOverrunFrame (c : Call) : (s.call c).rxOverrunFrame = s.rxOverrunFrame := rfl
@[simp] theorem State.call_kbdPend (c : Call) : (s.call c).kbdPend = s.kbdPend := rfl
@[simp] theorem State.call_kbd (c : Call) : (s.call c).kbd = s.kbd := rfl
@[simp] theorem State.call_mouse (c : Call) : (s.call c).mouse = s.mouse := rfl
@[simp] theorem State.call_env (c : Call) : (s.call c).env = s.env := rfl
@[simp] theorem State.call_loop (c : Call) : (s.call c).loop = s.loop := rfl
@[simp] theorem State.call_result (c : Call) : (s.call c).result = s.result := rfl
@[simp] theorem State.call_draws (c : Call) : (s.call c).draws = s.draws := rfl
@[simp] theorem State.call_nvTorn (c : Call) : (s.call c).nvTorn = s.nvTorn := rfl
@[simp] theorem State.call_sched (c : Call) : (s.call c).sched = s.sched := rfl
@[simp] theorem State.call_out (c : Call) : (s.call c).out = s.out ++ [.call c] := rfl

/-! ### `runCrc` -/

@[simp] theorem State.runCrc_cfg (h : Six) : (s.runCrc h).cfg = s.cfg := rfl
@[simp] theorem State.runCrc_rxBuf (h : Six) : (s.runCrc h).rxBuf = s.rxBuf := rfl
@[simp] theorem State.runCrc_rxIdx (h : Six) : (s.runCrc h).rxIdx = s.rxIdx := rfl
@[simp] theorem State.runCrc_req (h : Six) : (s.runCrc h).req = s.req := rfl
@[simp] theorem State.runCrc_disp (h : Six) : (s.runCrc h).disp = s.disp := rfl
@[simp] theorem State.runCrc_lastResp (h : Six) : (s.runCrc h).lastResp = s.lastResp := rfl
@[simp] theorem State.runCrc_lastValid (h : Six) : (s.runCrc h).lastValid = s.lastValid := rfl
@[simp] theorem State.runCrc_spiOut (h : Six) : (s.runCrc h).spiOut = s.spiOut := rfl
@[simp] theorem State.runCrc_spiOidx (h : Six) : (s.runCrc h).spiOidx = s.spiOidx := rfl
@[simp] theorem State.runCrc_nv (h : Six) : (s.runCrc h).nv = s.nv := rfl
@[simp] theorem State.runCrc_resetRequired (h : Six) : (s.runCrc h).resetRequired = s.resetRequired := rfl
@[simp] theorem State.runCrc_rxOverrunFrame (h : Six) : (s.runCrc h).rxOverrunFrame = s.rxOverrunFrame := rfl
@[simp] theorem State.runCrc_kbdPend (h : Six) : (s.runCrc h).kbdPend = s.kbdPend := rfl
@[simp] theorem State.runCrc_kbd (h : Six) : (s.runCrc h).kbd = s.kbd := rfl
@[simp] theorem State.runCrc_mouse (h : Six) : (s.runCrc h).mouse = s.mouse := rfl
@[simp] theorem State.runCrc_env (h : Six) : (s.runCrc h).env = s.env := rfl
@[simp] theorem State.runCrc_loop (h : Six) : (s.runCrc h).loop = s.loop := rfl
@[simp] theorem State.runCrc_result (h : Six) : (s.runCrc h).result = s.result := rfl
@[simp] theorem State.runCrc_out (h : Six) : (s.runCrc h).out = s.out := rfl
@[simp] theorem State.runCrc_draws (h : Six) : (s.runCrc h).draws = s.draws := rfl
@[simp] theorem State.runCrc_nvTorn (h : Six) : (s.runCrc h).nvTorn = s.nvTorn := rfl
@[simp] theorem State.runCrc_sched (h : Six) : (s.runCrc h).sched = s.sched := rfl
@[simp] theorem State.runCrc_crc (h : Six) : (s.runCrc h).crc = crcSix h := rfl

/-! ### `compose` -/

@[simp] theorem State.compose_cfg (st : Byte) : (s.compose st).cfg = s.cfg := rfl
@[simp] theorem State.compose_rxBuf (st : Byte) : (s.compose st).rxBuf = s.rxBuf := rfl
@[simp] theorem State.compose_rxIdx (st : Byte) : (s.compose st).rxIdx = s.rxIdx := rfl
@[simp] theorem State.compose_req (st : Byte) : (s.compose st).req = s.req := rfl
@[simp] theorem State.compose_disp (st : Byte) : (s.compose st).disp = s.disp := rfl
@[simp] theorem State.compose_spiOut (st : Byte) : (s.compose st).spiOut = s.spiOut := rfl
@[simp] theorem State.compose_spiOidx (st : Byte) : (s.compose st).spiOidx = s.spiOidx := rfl
@[simp] theorem State.compose_nv (st : Byte) : (s.compose st).nv = s.nv := rfl
@[simp] theorem State.compose_resetRequired (st : Byte) : (s.compose st).resetRequired = s.resetRequired := rfl
@[simp] theorem State.compose_rxOverrunFrame (st : Byte) : (s.compose st).rxOverrunFrame = s.rxOverrunFrame := rfl
@[simp] theorem State.compose_kbdPend (st : Byte) : (s.compose st).kbdPend = s.kbdPend := rfl
@[simp] theorem State.compose_kbd (st : Byte) : (s.compose st).kbd = s.kbd := rfl
@[simp] theorem State.compose_mouse (st : Byte) : (s.compose st).mouse = s.mouse := rfl
@[simp] theorem State.compose_env (st : Byte) : (s.compose st).env = s.env := rfl
@[simp] theorem State.compose_loop (st : Byte) : (s.compose st).loop = s.loop := rfl
@[simp] theorem State.compose_result (st : Byte) : (s.compose st).result = s.result := rfl
@[simp] theorem State.compose_out (st : Byte) : (s.compose st).out = s.out := rfl
@[simp] theorem State.compose_draws (st : Byte) : (s.compose st).draws = s.draws := rfl
@[simp] theorem State.compose_nvTorn (st : Byte) : (s.compose st).nvTorn = s.nvTorn := rfl
@[simp] theorem State.compose_sched (st : Byte) : (s.compose st).sched = s.sched := rfl
@[simp] theorem State.compose_lastResp (st : Byte) : (s.compose st).lastResp = crcAppend (responseSix s.cfg (statusByte s st) (backendByte s) (capsByte s)) := rfl
@[simp] theorem State.compose_crc (st : Byte) : (s.compose st).crc = crcSix (responseSix s.cfg (statusByte s st) (backendByte s) (capsByte s)) := rfl
@[simp] theorem State.compose_lastValid (st : Byte) : (s.compose st).lastValid = true := rfl

theorem State.respond_zero : s.respond 0#8 = s := rfl
theorem State.respond_of_ne {st : Byte} (h : st ≠ 0#8) : s.respond st = s.compose st := by simp [State.respond, h]

/-! ### `respond` -/

@[simp] theorem State.respond_cfg (st : Byte) : (s.respond st).cfg = s.cfg := by unfold State.respond; split <;> rfl
@[simp] theorem State.respond_rxBuf (st : Byte) : (s.respond st).rxBuf = s.rxBuf := by unfold State.respond; split <;> rfl
@[simp] theorem State.respond_rxIdx (st : Byte) : (s.respond st).rxIdx = s.rxIdx := by unfold State.respond; split <;> rfl
@[simp] theorem State.respond_req (st : Byte) : (s.respond st).req = s.req := by unfold State.respond; split <;> rfl
@[simp] theorem State.respond_disp (st : Byte) : (s.respond st).disp = s.disp := by unfold State.respond; split <;> rfl
@[simp] theorem State.respond_spiOut (st : Byte) : (s.respond st).spiOut = s.spiOut := by unfold State.respond; split <;> rfl
@[simp] theorem State.respond_spiOidx (st : Byte) : (s.respond st).spiOidx = s.spiOidx := by unfold State.respond; split <;> rfl
@[simp] theorem State.respond_nv (st : Byte) : (s.respond st).nv = s.nv := by unfold State.respond; split <;> rfl
@[simp] theorem State.respond_resetRequired (st : Byte) : (s.respond st).resetRequired = s.resetRequired := by unfold State.respond; split <;> rfl
@[simp] theorem State.respond_rxOverrunFrame (st : Byte) : (s.respond st).rxOverrunFrame = s.rxOverrunFrame := by unfold State.respond; split <;> rfl
@[simp] theorem State.respond_kbdPend (st : Byte) : (s.respond st).kbdPend = s.kbdPend := by unfold State.respond; split <;> rfl
@[simp] theorem State.respond_kbd (st : Byte) : (s.respond st).kbd = s.kbd := by unfold State.respond; split <;> rfl
@[simp] theorem State.respond_mouse (st : Byte) : (s.respond st).mouse = s.mouse := by unfold State.respond; split <;> rfl
@[simp] theorem State.respond_env (st : Byte) : (s.respond st).env = s.env := by unfold State.respond; split <;> rfl
@[simp] theorem State.respond_loop (st : Byte) : (s.respond st).loop = s.loop := by unfold State.respond; split <;> rfl
@[simp] theorem State.respond_result (st : Byte) : (s.respond st).result = s.result := by unfold State.respond; split <;> rfl
@[simp] theorem State.respond_out (st : Byte) : (s.respond st).out = s.out := by unfold State.respond; split <;> rfl
@[simp] theorem State.respond_draws (st : Byte) : (s.respond st).draws = s.draws := by unfold State.respond; split <;> rfl
@[simp] theorem State.respond_nvTorn (st : Byte) : (s.respond st).nvTorn = s.nvTorn := by unfold State.respond; split <;> rfl
@[simp] theorem State.respond_sched (st : Byte) : (s.respond st).sched = s.sched := by unfold State.respond; split <;> rfl

/-! ### `enterOutcome` -/

@[simp] theorem State.enterOutcome_cfg (st : Byte) : (s.enterOutcome st).cfg = s.cfg := by unfold State.enterOutcome; exact s.respond_cfg st
@[simp] theorem State.enterOutcome_rxBuf (st : Byte) : (s.enterOutcome st).rxBuf = s.rxBuf := by unfold State.enterOutcome; exact s.respond_rxBuf st
@[simp] theorem State.enterOutcome_rxIdx (st : Byte) : (s.enterOutcome st).rxIdx = s.rxIdx := by unfold State.enterOutcome; exact s.respond_rxIdx st
@[simp] theorem State.enterOutcome_spiOut (st : Byte) : (s.enterOutcome st).spiOut = s.spiOut := by unfold State.enterOutcome; exact s.respond_spiOut st
@[simp] theorem State.enterOutcome_spiOidx (st : Byte) : (s.enterOutcome st).spiOidx = s.spiOidx := by unfold State.enterOutcome; exact s.respond_spiOidx st
@[simp] theorem State.enterOutcome_nv (st : Byte) : (s.enterOutcome st).nv = s.nv := by unfold State.enterOutcome; exact s.respond_nv st
@[simp] theorem State.enterOutcome_resetRequired (st : Byte) : (s.enterOutcome st).resetRequired = s.resetRequired := by unfold State.enterOutcome; exact s.respond_resetRequired st
@[simp] theorem State.enterOutcome_rxOverrunFrame (st : Byte) : (s.enterOutcome st).rxOverrunFrame = s.rxOverrunFrame := by unfold State.enterOutcome; exact s.respond_rxOverrunFrame st
@[simp] theorem State.enterOutcome_kbdPend (st : Byte) : (s.enterOutcome st).kbdPend = s.kbdPend := by unfold State.enterOutcome; exact s.respond_kbdPend st
@[simp] theorem State.enterOutcome_kbd (st : Byte) : (s.enterOutcome st).kbd = s.kbd := by unfold State.enterOutcome; exact s.respond_kbd st
@[simp] theorem State.enterOutcome_mouse (st : Byte) : (s.enterOutcome st).mouse = s.mouse := by unfold State.enterOutcome; exact s.respond_mouse st
@[simp] theorem State.enterOutcome_env (st : Byte) : (s.enterOutcome st).env = s.env := by unfold State.enterOutcome; exact s.respond_env st
@[simp] theorem State.enterOutcome_loop (st : Byte) : (s.enterOutcome st).loop = s.loop := by unfold State.enterOutcome; exact s.respond_loop st
@[simp] theorem State.enterOutcome_result (st : Byte) : (s.enterOutcome st).result = s.result := by unfold State.enterOutcome; exact s.respond_result st
@[simp] theorem State.enterOutcome_out (st : Byte) : (s.enterOutcome st).out = s.out := by unfold State.enterOutcome; exact s.respond_out st
@[simp] theorem State.enterOutcome_draws (st : Byte) : (s.enterOutcome st).draws = s.draws := by unfold State.enterOutcome; exact s.respond_draws st
@[simp] theorem State.enterOutcome_nvTorn (st : Byte) : (s.enterOutcome st).nvTorn = s.nvTorn := by unfold State.enterOutcome; exact s.respond_nvTorn st
@[simp] theorem State.enterOutcome_sched (st : Byte) : (s.enterOutcome st).sched = s.sched := by unfold State.enterOutcome; exact s.respond_sched st
@[simp] theorem State.enterOutcome_req (st : Byte) : (s.enterOutcome st).req = none := rfl
@[simp] theorem State.enterOutcome_disp (st : Byte) : (s.enterOutcome st).disp = .responding := rfl
@[simp] theorem State.enterOutcome_crc (st : Byte) : (s.enterOutcome st).crc = (s.respond st).crc := rfl
@[simp] theorem State.enterOutcome_lastResp (st : Byte) : (s.enterOutcome st).lastResp = (s.respond st).lastResp := rfl
@[simp] theorem State.enterOutcome_lastValid (st : Byte) : (s.enterOutcome st).lastValid = (s.respond st).lastValid := rfl

/-! ### `leaveOutcome` -/

@[simp] theorem State.leaveOutcome_cfg : (s.leaveOutcome).cfg = s.cfg := rfl
@[simp] theorem State.leaveOutcome_crc : (s.leaveOutcome).crc = s.crc := rfl
@[simp] theorem State.leaveOutcome_rxBuf : (s.leaveOutcome).rxBuf = s.rxBuf := rfl
@[simp] theorem State.leaveOutcome_rxIdx : (s.leaveOutcome).rxIdx = s.rxIdx := rfl
@[simp] theorem State.leaveOutcome_req : (s.leaveOutcome).req = s.req := rfl
@[simp] theorem State.leaveOutcome_lastResp : (s.leaveOutcome).lastResp = s.lastResp := rfl
@[simp] theorem State.leaveOutcome_lastValid : (s.leaveOutcome).lastValid = s.lastValid := rfl
@[simp] theorem State.leaveOutcome_spiOut : (s.leaveOutcome).spiOut = s.spiOut := rfl
@[simp] theorem State.leaveOutcome_spiOidx : (s.leaveOutcome).spiOidx = s.spiOidx := rfl
@[simp] theorem State.leaveOutcome_nv : (s.leaveOutcome).nv = s.nv := rfl
@[simp] theorem State.leaveOutcome_resetRequired : (s.leaveOutcome).resetRequired = s.resetRequired := rfl
@[simp] theorem State.leaveOutcome_rxOverrunFrame : (s.leaveOutcome).rxOverrunFrame = s.rxOverrunFrame := rfl
@[simp] theorem State.leaveOutcome_kbdPend : (s.leaveOutcome).kbdPend = s.kbdPend := rfl
@[simp] theorem State.leaveOutcome_kbd : (s.leaveOutcome).kbd = s.kbd := rfl
@[simp] theorem State.leaveOutcome_mouse : (s.leaveOutcome).mouse = s.mouse := rfl
@[simp] theorem State.leaveOutcome_env : (s.leaveOutcome).env = s.env := rfl
@[simp] theorem State.leaveOutcome_loop : (s.leaveOutcome).loop = s.loop := rfl
@[simp] theorem State.leaveOutcome_result : (s.leaveOutcome).result = s.result := rfl
@[simp] theorem State.leaveOutcome_out : (s.leaveOutcome).out = s.out := rfl
@[simp] theorem State.leaveOutcome_draws : (s.leaveOutcome).draws = s.draws := rfl
@[simp] theorem State.leaveOutcome_nvTorn : (s.leaveOutcome).nvTorn = s.nvTorn := rfl
@[simp] theorem State.leaveOutcome_sched : (s.leaveOutcome).sched = s.sched := rfl
@[simp] theorem State.leaveOutcome_disp : s.leaveOutcome.disp = .idle := rfl

/-! ### Enqueueing -/

theorem State.enqueue_eq (ch : Chan) (b : Byte) :
    s.enqueue ch b = s.setChan ch ((s.chan ch).enqueue s.cfg.ps2TxqDepth b) := rfl
/-- Enqueueing several bytes touches the one channel only. -/
theorem State.enqueueAll_eq (ch : Chan) (bs : List Byte) :
    s.enqueueAll ch bs = s.setChan ch (bs.foldl (Channel.enqueue s.cfg.ps2TxqDepth) (s.chan ch)) := by
  induction bs generalizing s with
  | nil => simp [State.enqueueAll]
  | cons b bs ih =>
    have h := ih (s.enqueue ch b)
    simp only [State.enqueueAll, List.foldl_cons] at h ⊢
    rw [h]
    simp [State.enqueue_eq]
@[simp] theorem State.enqueueAll_nil (ch : Chan) : s.enqueueAll ch [] = s := rfl

/-! ### `enqueue` -/

@[simp] theorem State.enqueue_cfg (ch : Chan) (b : Byte) : (s.enqueue ch b).cfg = s.cfg := by rw [State.enqueue_eq]; simp
@[simp] theorem State.enqueue_crc (ch : Chan) (b : Byte) : (s.enqueue ch b).crc = s.crc := by rw [State.enqueue_eq]; simp
@[simp] theorem State.enqueue_rxBuf (ch : Chan) (b : Byte) : (s.enqueue ch b).rxBuf = s.rxBuf := by rw [State.enqueue_eq]; simp
@[simp] theorem State.enqueue_rxIdx (ch : Chan) (b : Byte) : (s.enqueue ch b).rxIdx = s.rxIdx := by rw [State.enqueue_eq]; simp
@[simp] theorem State.enqueue_req (ch : Chan) (b : Byte) : (s.enqueue ch b).req = s.req := by rw [State.enqueue_eq]; simp
@[simp] theorem State.enqueue_disp (ch : Chan) (b : Byte) : (s.enqueue ch b).disp = s.disp := by rw [State.enqueue_eq]; simp
@[simp] theorem State.enqueue_lastResp (ch : Chan) (b : Byte) : (s.enqueue ch b).lastResp = s.lastResp := by rw [State.enqueue_eq]; simp
@[simp] theorem State.enqueue_lastValid (ch : Chan) (b : Byte) : (s.enqueue ch b).lastValid = s.lastValid := by rw [State.enqueue_eq]; simp
@[simp] theorem State.enqueue_spiOut (ch : Chan) (b : Byte) : (s.enqueue ch b).spiOut = s.spiOut := by rw [State.enqueue_eq]; simp
@[simp] theorem State.enqueue_spiOidx (ch : Chan) (b : Byte) : (s.enqueue ch b).spiOidx = s.spiOidx := by rw [State.enqueue_eq]; simp
@[simp] theorem State.enqueue_nv (ch : Chan) (b : Byte) : (s.enqueue ch b).nv = s.nv := by rw [State.enqueue_eq]; simp
@[simp] theorem State.enqueue_resetRequired (ch : Chan) (b : Byte) : (s.enqueue ch b).resetRequired = s.resetRequired := by rw [State.enqueue_eq]; simp
@[simp] theorem State.enqueue_rxOverrunFrame (ch : Chan) (b : Byte) : (s.enqueue ch b).rxOverrunFrame = s.rxOverrunFrame := by rw [State.enqueue_eq]; simp
@[simp] theorem State.enqueue_kbdPend (ch : Chan) (b : Byte) : (s.enqueue ch b).kbdPend = s.kbdPend := by rw [State.enqueue_eq]; simp
@[simp] theorem State.enqueue_env (ch : Chan) (b : Byte) : (s.enqueue ch b).env = s.env := by rw [State.enqueue_eq]; simp
@[simp] theorem State.enqueue_loop (ch : Chan) (b : Byte) : (s.enqueue ch b).loop = s.loop := by rw [State.enqueue_eq]; simp
@[simp] theorem State.enqueue_result (ch : Chan) (b : Byte) : (s.enqueue ch b).result = s.result := by rw [State.enqueue_eq]; simp
@[simp] theorem State.enqueue_out (ch : Chan) (b : Byte) : (s.enqueue ch b).out = s.out := by rw [State.enqueue_eq]; simp
@[simp] theorem State.enqueue_draws (ch : Chan) (b : Byte) : (s.enqueue ch b).draws = s.draws := by rw [State.enqueue_eq]; simp
@[simp] theorem State.enqueue_nvTorn (ch : Chan) (b : Byte) : (s.enqueue ch b).nvTorn = s.nvTorn := by rw [State.enqueue_eq]; simp
@[simp] theorem State.enqueue_sched (ch : Chan) (b : Byte) : (s.enqueue ch b).sched = s.sched := by rw [State.enqueue_eq]; simp

/-! ### `enqueueAll` -/

@[simp] theorem State.enqueueAll_cfg (ch : Chan) (bs : List Byte) : (s.enqueueAll ch bs).cfg = s.cfg := by rw [State.enqueueAll_eq]; simp
@[simp] theorem State.enqueueAll_crc (ch : Chan) (bs : List Byte) : (s.enqueueAll ch bs).crc = s.crc := by rw [State.enqueueAll_eq]; simp
@[simp] theorem State.enqueueAll_rxBuf (ch : Chan) (bs : List Byte) : (s.enqueueAll ch bs).rxBuf = s.rxBuf := by rw [State.enqueueAll_eq]; simp
@[simp] theorem State.enqueueAll_rxIdx (ch : Chan) (bs : List Byte) : (s.enqueueAll ch bs).rxIdx = s.rxIdx := by rw [State.enqueueAll_eq]; simp
@[simp] theorem State.enqueueAll_req (ch : Chan) (bs : List Byte) : (s.enqueueAll ch bs).req = s.req := by rw [State.enqueueAll_eq]; simp
@[simp] theorem State.enqueueAll_disp (ch : Chan) (bs : List Byte) : (s.enqueueAll ch bs).disp = s.disp := by rw [State.enqueueAll_eq]; simp
@[simp] theorem State.enqueueAll_lastResp (ch : Chan) (bs : List Byte) : (s.enqueueAll ch bs).lastResp = s.lastResp := by rw [State.enqueueAll_eq]; simp
@[simp] theorem State.enqueueAll_lastValid (ch : Chan) (bs : List Byte) : (s.enqueueAll ch bs).lastValid = s.lastValid := by rw [State.enqueueAll_eq]; simp
@[simp] theorem State.enqueueAll_spiOut (ch : Chan) (bs : List Byte) : (s.enqueueAll ch bs).spiOut = s.spiOut := by rw [State.enqueueAll_eq]; simp
@[simp] theorem State.enqueueAll_spiOidx (ch : Chan) (bs : List Byte) : (s.enqueueAll ch bs).spiOidx = s.spiOidx := by rw [State.enqueueAll_eq]; simp
@[simp] theorem State.enqueueAll_nv (ch : Chan) (bs : List Byte) : (s.enqueueAll ch bs).nv = s.nv := by rw [State.enqueueAll_eq]; simp
@[simp] theorem State.enqueueAll_resetRequired (ch : Chan) (bs : List Byte) : (s.enqueueAll ch bs).resetRequired = s.resetRequired := by rw [State.enqueueAll_eq]; simp
@[simp] theorem State.enqueueAll_rxOverrunFrame (ch : Chan) (bs : List Byte) : (s.enqueueAll ch bs).rxOverrunFrame = s.rxOverrunFrame := by rw [State.enqueueAll_eq]; simp
@[simp] theorem State.enqueueAll_kbdPend (ch : Chan) (bs : List Byte) : (s.enqueueAll ch bs).kbdPend = s.kbdPend := by rw [State.enqueueAll_eq]; simp
@[simp] theorem State.enqueueAll_env (ch : Chan) (bs : List Byte) : (s.enqueueAll ch bs).env = s.env := by rw [State.enqueueAll_eq]; simp
@[simp] theorem State.enqueueAll_loop (ch : Chan) (bs : List Byte) : (s.enqueueAll ch bs).loop = s.loop := by rw [State.enqueueAll_eq]; simp
@[simp] theorem State.enqueueAll_result (ch : Chan) (bs : List Byte) : (s.enqueueAll ch bs).result = s.result := by rw [State.enqueueAll_eq]; simp
@[simp] theorem State.enqueueAll_out (ch : Chan) (bs : List Byte) : (s.enqueueAll ch bs).out = s.out := by rw [State.enqueueAll_eq]; simp
@[simp] theorem State.enqueueAll_draws (ch : Chan) (bs : List Byte) : (s.enqueueAll ch bs).draws = s.draws := by rw [State.enqueueAll_eq]; simp
@[simp] theorem State.enqueueAll_nvTorn (ch : Chan) (bs : List Byte) : (s.enqueueAll ch bs).nvTorn = s.nvTorn := by rw [State.enqueueAll_eq]; simp
@[simp] theorem State.enqueueAll_sched (ch : Chan) (bs : List Byte) : (s.enqueueAll ch bs).sched = s.sched := by rw [State.enqueueAll_eq]; simp

/-! ### `kbdReply` -/

@[simp] theorem State.kbdReply_cfg (bs : List Byte) : (s.kbdReply bs).cfg = s.cfg := by simp [State.kbdReply]
@[simp] theorem State.kbdReply_crc (bs : List Byte) : (s.kbdReply bs).crc = s.crc := by simp [State.kbdReply]
@[simp] theorem State.kbdReply_rxBuf (bs : List Byte) : (s.kbdReply bs).rxBuf = s.rxBuf := by simp [State.kbdReply]
@[simp] theorem State.kbdReply_rxIdx (bs : List Byte) : (s.kbdReply bs).rxIdx = s.rxIdx := by simp [State.kbdReply]
@[simp] theorem State.kbdReply_req (bs : List Byte) : (s.kbdReply bs).req = s.req := by simp [State.kbdReply]
@[simp] theorem State.kbdReply_disp (bs : List Byte) : (s.kbdReply bs).disp = s.disp := by simp [State.kbdReply]
@[simp] theorem State.kbdReply_lastResp (bs : List Byte) : (s.kbdReply bs).lastResp = s.lastResp := by simp [State.kbdReply]
@[simp] theorem State.kbdReply_lastValid (bs : List Byte) : (s.kbdReply bs).lastValid = s.lastValid := by simp [State.kbdReply]
@[simp] theorem State.kbdReply_spiOut (bs : List Byte) : (s.kbdReply bs).spiOut = s.spiOut := by simp [State.kbdReply]
@[simp] theorem State.kbdReply_spiOidx (bs : List Byte) : (s.kbdReply bs).spiOidx = s.spiOidx := by simp [State.kbdReply]
@[simp] theorem State.kbdReply_nv (bs : List Byte) : (s.kbdReply bs).nv = s.nv := by simp [State.kbdReply]
@[simp] theorem State.kbdReply_resetRequired (bs : List Byte) : (s.kbdReply bs).resetRequired = s.resetRequired := by simp [State.kbdReply]
@[simp] theorem State.kbdReply_rxOverrunFrame (bs : List Byte) : (s.kbdReply bs).rxOverrunFrame = s.rxOverrunFrame := by simp [State.kbdReply]
@[simp] theorem State.kbdReply_kbdPend (bs : List Byte) : (s.kbdReply bs).kbdPend = s.kbdPend := by simp [State.kbdReply]
@[simp] theorem State.kbdReply_env (bs : List Byte) : (s.kbdReply bs).env = s.env := by simp [State.kbdReply]
@[simp] theorem State.kbdReply_loop (bs : List Byte) : (s.kbdReply bs).loop = s.loop := by simp [State.kbdReply]
@[simp] theorem State.kbdReply_result (bs : List Byte) : (s.kbdReply bs).result = s.result := by simp [State.kbdReply]
@[simp] theorem State.kbdReply_out (bs : List Byte) : (s.kbdReply bs).out = s.out := by simp [State.kbdReply]
@[simp] theorem State.kbdReply_draws (bs : List Byte) : (s.kbdReply bs).draws = s.draws := by simp [State.kbdReply]
@[simp] theorem State.kbdReply_nvTorn (bs : List Byte) : (s.kbdReply bs).nvTorn = s.nvTorn := by simp [State.kbdReply]
@[simp] theorem State.kbdReply_sched (bs : List Byte) : (s.kbdReply bs).sched = s.sched := by simp [State.kbdReply]
@[simp] theorem State.kbdReply_mouse (bs : List Byte) : (s.kbdReply bs).mouse = s.mouse := by simp [State.kbdReply, State.enqueueAll_eq]

/-! ### `keyseq` -/

@[simp] theorem State.keyseq_cfg (code : Byte) (p : Bool) : (s.keyseq code p).cfg = s.cfg := by simp [State.keyseq]
@[simp] theorem State.keyseq_crc (code : Byte) (p : Bool) : (s.keyseq code p).crc = s.crc := by simp [State.keyseq]
@[simp] theorem State.keyseq_rxBuf (code : Byte) (p : Bool) : (s.keyseq code p).rxBuf = s.rxBuf := by simp [State.keyseq]
@[simp] theorem State.keyseq_rxIdx (code : Byte) (p : Bool) : (s.keyseq code p).rxIdx = s.rxIdx := by simp [State.keyseq]
@[simp] theorem State.keyseq_req (code : Byte) (p : Bool) : (s.keyseq code p).req = s.req := by simp [State.keyseq]
@[simp] theorem State.keyseq_disp (code : Byte) (p : Bool) : (s.keyseq code p).disp = s.disp := by simp [State.keyseq]
@[simp] theorem State.keyseq_lastResp (code : Byte) (p : Bool) : (s.keyseq code p).lastResp = s.lastResp := by simp [State.keyseq]
@[simp] theorem State.keyseq_lastValid (code : Byte) (p : Bool) : (s.keyseq code p).lastValid = s.lastValid := by simp [State.keyseq]
@[simp] theorem State.keyseq_spiOut (code : Byte) (p : Bool) : (s.keyseq code p).spiOut = s.spiOut := by simp [State.keyseq]
@[simp] theorem State.keyseq_spiOidx (code : Byte) (p : Bool) : (s.keyseq code p).spiOidx = s.spiOidx := by simp [State.keyseq]
@[simp] theorem State.keyseq_nv (code : Byte) (p : Bool) : (s.keyseq code p).nv = s.nv := by simp [State.keyseq]
@[simp] theorem State.keyseq_resetRequired (code : Byte) (p : Bool) : (s.keyseq code p).resetRequired = s.resetRequired := by simp [State.keyseq]
@[simp] theorem State.keyseq_rxOverrunFrame (code : Byte) (p : Bool) : (s.keyseq code p).rxOverrunFrame = s.rxOverrunFrame := by simp [State.keyseq]
@[simp] theorem State.keyseq_kbdPend (code : Byte) (p : Bool) : (s.keyseq code p).kbdPend = s.kbdPend := by simp [State.keyseq]
@[simp] theorem State.keyseq_env (code : Byte) (p : Bool) : (s.keyseq code p).env = s.env := by simp [State.keyseq]
@[simp] theorem State.keyseq_loop (code : Byte) (p : Bool) : (s.keyseq code p).loop = s.loop := by simp [State.keyseq]
@[simp] theorem State.keyseq_result (code : Byte) (p : Bool) : (s.keyseq code p).result = s.result := by simp [State.keyseq]
@[simp] theorem State.keyseq_out (code : Byte) (p : Bool) : (s.keyseq code p).out = s.out := by simp [State.keyseq]
@[simp] theorem State.keyseq_draws (code : Byte) (p : Bool) : (s.keyseq code p).draws = s.draws := by simp [State.keyseq]
@[simp] theorem State.keyseq_nvTorn (code : Byte) (p : Bool) : (s.keyseq code p).nvTorn = s.nvTorn := by simp [State.keyseq]
@[simp] theorem State.keyseq_sched (code : Byte) (p : Bool) : (s.keyseq code p).sched = s.sched := by simp [State.keyseq]
@[simp] theorem State.keyseq_mouse (code : Byte) (p : Bool) : (s.keyseq code p).mouse = s.mouse := by simp [State.keyseq, State.enqueueAll_eq]

/-! ### `sendKey` -/

@[simp] theorem State.sendKey_cfg (code : Byte) (p : Bool) : (s.sendKey code p).cfg = s.cfg := by unfold State.sendKey; split <;> simp
@[simp] theorem State.sendKey_crc (code : Byte) (p : Bool) : (s.sendKey code p).crc = s.crc := by unfold State.sendKey; split <;> simp
@[simp] theorem State.sendKey_rxBuf (code : Byte) (p : Bool) : (s.sendKey code p).rxBuf = s.rxBuf := by unfold State.sendKey; split <;> simp
@[simp] theorem State.sendKey_rxIdx (code : Byte) (p : Bool) : (s.sendKey code p).rxIdx = s.rxIdx := by unfold State.sendKey; split <;> simp
@[simp] theorem State.sendKey_req (code : Byte) (p : Bool) : (s.sendKey code p).req = s.req := by unfold State.sendKey; split <;> simp
@[simp] theorem State.sendKey_disp (code : Byte) (p : Bool) : (s.sendKey code p).disp = s.disp := by unfold State.sendKey; split <;> simp
@[simp] theorem State.sendKey_lastResp (code : Byte) (p : Bool) : (s.sendKey code p).lastResp = s.lastResp := by unfold State.sendKey; split <;> simp
@[simp] theorem State.sendKey_lastValid (code : Byte) (p : Bool) : (s.sendKey code p).lastValid = s.lastValid := by unfold State.sendKey; split <;> simp
@[simp] theorem State.sendKey_spiOut (code : Byte) (p : Bool) : (s.sendKey code p).spiOut = s.spiOut := by unfold State.sendKey; split <;> simp
@[simp] theorem State.sendKey_spiOidx (code : Byte) (p : Bool) : (s.sendKey code p).spiOidx = s.spiOidx := by unfold State.sendKey; split <;> simp
@[simp] theorem State.sendKey_nv (code : Byte) (p : Bool) : (s.sendKey code p).nv = s.nv := by unfold State.sendKey; split <;> simp
@[simp] theorem State.sendKey_resetRequired (code : Byte) (p : Bool) : (s.sendKey code p).resetRequired = s.resetRequired := by unfold State.sendKey; split <;> simp
@[simp] theorem State.sendKey_rxOverrunFrame (code : Byte) (p : Bool) : (s.sendKey code p).rxOverrunFrame = s.rxOverrunFrame := by unfold State.sendKey; split <;> simp
@[simp] theorem State.sendKey_kbdPend (code : Byte) (p : Bool) : (s.sendKey code p).kbdPend = s.kbdPend := by unfold State.sendKey; split <;> simp
@[simp] theorem State.sendKey_mouse (code : Byte) (p : Bool) : (s.sendKey code p).mouse = s.mouse := by unfold State.sendKey; split <;> simp
@[simp] theorem State.sendKey_env (code : Byte) (p : Bool) : (s.sendKey code p).env = s.env := by unfold State.sendKey; split <;> simp
@[simp] theorem State.sendKey_loop (code : Byte) (p : Bool) : (s.sendKey code p).loop = s.loop := by unfold State.sendKey; split <;> simp
@[simp] theorem State.sendKey_result (code : Byte) (p : Bool) : (s.sendKey code p).result = s.result := by unfold State.sendKey; split <;> simp
@[simp] theorem State.sendKey_draws (code : Byte) (p : Bool) : (s.sendKey code p).draws = s.draws := by unfold State.sendKey; split <;> simp
@[simp] theorem State.sendKey_nvTorn (code : Byte) (p : Bool) : (s.sendKey code p).nvTorn = s.nvTorn := by unfold State.sendKey; split <;> simp
@[simp] theorem State.sendKey_sched (code : Byte) (p : Bool) : (s.sendKey code p).sched = s.sched := by unfold State.sendKey; split <;> simp
@[simp] theorem State.sendKey_out (code : Byte) (p : Bool) : (s.sendKey code p).out = s.out ++ [.call (.sendKey code p)] := by unfold State.sendKey; split <;> simp

/-! ### `recRead` -/

@[simp] theorem State.recRead_cfg : (s.recRead.1).cfg = s.cfg := by unfold State.recRead; split <;> rfl
@[simp] theorem State.recRead_rxBuf : (s.recRead.1).rxBuf = s.rxBuf := by unfold State.recRead; split <;> rfl
@[simp] theorem State.recRead_rxIdx : (s.recRead.1).rxIdx = s.rxIdx := by unfold State.recRead; split <;> rfl
@[simp] theorem State.recRead_req : (s.recRead.1).req = s.req := by unfold State.recRead; split <;> rfl
@[simp] theorem State.recRead_disp : (s.recRead.1).disp = s.disp := by unfold State.recRead; split <;> rfl
@[simp] theorem State.recRead_lastResp : (s.recRead.1).lastResp = s.lastResp := by unfold State.recRead; split <;> rfl
@[simp] theorem State.recRead_lastValid : (s.recRead.1).lastValid = s.lastValid := by unfold State.recRead; split <;> rfl
@[simp] theorem State.recRead_spiOut : (s.recRead.1).spiOut = s.spiOut := by unfold State.recRead; split <;> rfl
@[simp] theorem State.recRead_spiOidx : (s.recRead.1).spiOidx = s.spiOidx := by unfold State.recRead; split <;> rfl
@[simp] theorem State.recRead_nv : (s.recRead.1).nv = s.nv := by unfold State.recRead; split <;> rfl
@[simp] theorem State.recRead_resetRequired : (s.recRead.1).resetRequired = s.resetRequired := by unfold State.recRead; split <;> rfl
@[simp] theorem State.recRead_rxOverrunFrame : (s.recRead.1).rxOverrunFrame = s.rxOverrunFrame := by unfold State.recRead; split <;> rfl
@[simp] theorem State.recRead_kbdPend : (s.recRead.1).kbdPend = s.kbdPend := by unfold State.recRead; split <;> rfl
@[simp] theorem State.recRead_kbd : (s.recRead.1).kbd = s.kbd := by unfold State.recRead; split <;> rfl
@[simp] theorem State.recRead_mouse : (s.recRead.1).mouse = s.mouse := by unfold State.recRead; split <;> rfl
@[simp] theorem State.recRead_env : (s.recRead.1).env = s.env := by unfold State.recRead; split <;> rfl
@[simp] theorem State.recRead_loop : (s.recRead.1).loop = s.loop := by unfold State.recRead; split <;> rfl
@[simp] theorem State.recRead_result : (s.recRead.1).result = s.result := by unfold State.recRead; split <;> rfl
@[simp] theorem State.recRead_out : (s.recRead.1).out = s.out := by unfold State.recRead; split <;> rfl
@[simp] theorem State.recRead_draws : (s.recRead.1).draws = s.draws := by unfold State.recRead; split <;> rfl
@[simp] theorem State.recRead_nvTorn : (s.recRead.1).nvTorn = s.nvTorn := by unfold State.recRead; split <;> rfl
@[simp] theorem State.recRead_sched : (s.recRead.1).sched = s.sched := by unfold State.recRead; split <;> rfl

/-! ### `recWrite` -/

@[simp] theorem State.recWrite_cfg (v : Byte) : (s.recWrite v).cfg = s.cfg := rfl
@[simp] theorem State.recWrite_rxBuf (v : Byte) : (s.recWrite v).rxBuf = s.rxBuf := rfl
@[simp] theorem State.recWrite_rxIdx (v : Byte) : (s.recWrite v).rxIdx = s.rxIdx := rfl
@[simp] theorem State.recWrite_req (v : Byte) : (s.recWrite v).req = s.req := rfl
@[simp] theorem State.recWrite_disp (v : Byte) : (s.recWrite v).disp = s.disp := rfl
@[simp] theorem State.recWrite_lastResp (v : Byte) : (s.recWrite v).lastResp = s.lastResp := rfl
@[simp] theorem State.recWrite_lastValid (v : Byte) : (s.recWrite v).lastValid = s.lastValid := rfl
@[simp] theorem State.recWrite_spiOut (v : Byte) : (s.recWrite v).spiOut = s.spiOut := rfl
@[simp] theorem State.recWrite_spiOidx (v : Byte) : (s.recWrite v).spiOidx = s.spiOidx := rfl
@[simp] theorem State.recWrite_resetRequired (v : Byte) : (s.recWrite v).resetRequired = s.resetRequired := rfl
@[simp] theorem State.recWrite_rxOverrunFrame (v : Byte) : (s.recWrite v).rxOverrunFrame = s.rxOverrunFrame := rfl
@[simp] theorem State.recWrite_kbdPend (v : Byte) : (s.recWrite v).kbdPend = s.kbdPend := rfl
@[simp] theorem State.recWrite_kbd (v : Byte) : (s.recWrite v).kbd = s.kbd := rfl
@[simp] theorem State.recWrite_mouse (v : Byte) : (s.recWrite v).mouse = s.mouse := rfl
@[simp] theorem State.recWrite_env (v : Byte) : (s.recWrite v).env = s.env := rfl
@[simp] theorem State.recWrite_loop (v : Byte) : (s.recWrite v).loop = s.loop := rfl
@[simp] theorem State.recWrite_result (v : Byte) : (s.recWrite v).result = s.result := rfl
@[simp] theorem State.recWrite_out (v : Byte) : (s.recWrite v).out = s.out := rfl
@[simp] theorem State.recWrite_draws (v : Byte) : (s.recWrite v).draws = s.draws := rfl
@[simp] theorem State.recWrite_sched (v : Byte) : (s.recWrite v).sched = s.sched := rfl
@[simp] theorem State.recWrite_nv (v : Byte) : (s.recWrite v).nv = crcAppend ⟨s.cfg.storageMagic, v, 0#8, 0#8, 0#8, 0#8⟩ := rfl
@[simp] theorem State.recWrite_crc (v : Byte) : (s.recWrite v).crc = crcSix ⟨s.cfg.storageMagic, v, 0#8, 0#8, 0#8, 0#8⟩ := rfl
@[simp] theorem State.recWrite_nvTorn (v : Byte) : (s.recWrite v).nvTorn = if s.cfg.nvWriteAtomic then s.nvTorn else some s.nv := rfl

/-! ### `recUpdate` -/

@[simp] theorem State.recUpdate_cfg (m b : Byte) (f : Bool) : (s.recUpdate m b f).cfg = s.cfg := by unfold State.recUpdate; split <;> simp
@[simp] theorem State.recUpdate_rxBuf (m b : Byte) (f : Bool) : (s.recUpdate m b f).rxBuf = s.rxBuf := by unfold State.recUpdate; split <;> simp
@[simp] theorem State.recUpdate_rxIdx (m b : Byte) (f : Bool) : (s.recUpdate m b f).rxIdx = s.rxIdx := by unfold State.recUpdate; split <;> simp
@[simp] theorem State.recUpdate_req (m b : Byte) (f : Bool) : (s.recUpdate m b f).req = s.req := by unfold State.recUpdate; split <;> simp
@[simp] theorem State.recUpdate_disp (m b : Byte) (f : Bool) : (s.recUpdate m b f).disp = s.disp := by unfold State.recUpdate; split <;> simp
@[simp] theorem State.recUpdate_lastResp (m b : Byte) (f : Bool) : (s.recUpdate m b f).lastResp = s.lastResp := by unfold State.recUpdate; split <;> simp
@[simp] theorem State.recUpdate_lastValid (m b : Byte) (f : Bool) : (s.recUpdate m b f).lastValid = s.lastValid := by unfold State.recUpdate; split <;> simp
@[simp] theorem State.recUpdate_spiOut (m b : Byte) (f : Bool) : (s.recUpdate m b f).spiOut = s.spiOut := by unfold State.recUpdate; split <;> simp
@[simp] theorem State.recUpdate_spiOidx (m b : Byte) (f : Bool) : (s.recUpdate m b f).spiOidx = s.spiOidx := by unfold State.recUpdate; split <;> simp
@[simp] theorem State.recUpdate_resetRequired (m b : Byte) (f : Bool) : (s.recUpdate m b f).resetRequired = s.resetRequired := by unfold State.recUpdate; split <;> simp
@[simp] theorem State.recUpdate_rxOverrunFrame (m b : Byte) (f : Bool) : (s.recUpdate m b f).rxOverrunFrame = s.rxOverrunFrame := by unfold State.recUpdate; split <;> simp
@[simp] theorem State.recUpdate_kbdPend (m b : Byte) (f : Bool) : (s.recUpdate m b f).kbdPend = s.kbdPend := by unfold State.recUpdate; split <;> simp
@[simp] theorem State.recUpdate_kbd (m b : Byte) (f : Bool) : (s.recUpdate m b f).kbd = s.kbd := by unfold State.recUpdate; split <;> simp
@[simp] theorem State.recUpdate_mouse (m b : Byte) (f : Bool) : (s.recUpdate m b f).mouse = s.mouse := by unfold State.recUpdate; split <;> simp
@[simp] theorem State.recUpdate_env (m b : Byte) (f : Bool) : (s.recUpdate m b f).env = s.env := by unfold State.recUpdate; split <;> simp
@[simp] theorem State.recUpdate_loop (m b : Byte) (f : Bool) : (s.recUpdate m b f).loop = s.loop := by unfold State.recUpdate; split <;> simp
@[simp] theorem State.recUpdate_result (m b : Byte) (f : Bool) : (s.recUpdate m b f).result = s.result := by unfold State.recUpdate; split <;> simp
@[simp] theorem State.recUpdate_out (m b : Byte) (f : Bool) : (s.recUpdate m b f).out = s.out := by unfold State.recUpdate; split <;> simp
@[simp] theorem State.recUpdate_draws (m b : Byte) (f : Bool) : (s.recUpdate m b f).draws = s.draws := by unfold State.recUpdate; split <;> simp
@[simp] theorem State.recUpdate_sched (m b : Byte) (f : Bool) : (s.recUpdate m b f).sched = s.sched := by unfold State.recUpdate; split <;> simp
@[simp] theorem State.recUpdate_nvTorn (m b : Byte) (f : Bool) : (s.recUpdate m b f).nvTorn = if s.cfg.nvWriteAtomic then s.nvTorn else some s.nv := by unfold State.recUpdate; split <;> simp

/-! ### `recInit` -/

@[simp] theorem State.recInit_cfg : (s.recInit.1).cfg = s.cfg := by
  have h := s.recRead_cfg
  unfold State.recInit
  split <;> simp_all
@[simp] theorem State.recInit_rxBuf : (s.recInit.1).rxBuf = s.rxBuf := by
  have h := s.recRead_rxBuf
  unfold State.recInit
  split <;> simp_all
@[simp] theorem State.recInit_rxIdx : (s.recInit.1).rxIdx = s.rxIdx := by
  have h := s.recRead_rxIdx
  unfold State.recInit
  split <;> simp_all
@[simp] theorem State.recInit_req : (s.recInit.1).req = s.req := by
  have h := s.recRead_req
  unfold State.recInit
  split <;> simp_all
@[simp] theorem State.recInit_disp : (s.recInit.1).disp = s.disp := by
  have h := s.recRead_disp
  unfold State.recInit
  split <;> simp_all
@[simp] theorem State.recInit_lastResp : (s.recInit.1).lastResp = s.lastResp := by
  have h := s.recRead_lastResp
  unfold State.recInit
  split <;> simp_all
@[simp] theorem State.recInit_lastValid : (s.recInit.1).lastValid = s.lastValid := by
  have h := s.recRead_lastValid
  unfold State.recInit
  split <;> simp_all
@[simp] theorem State.recInit_spiOut : (s.recInit.1).spiOut = s.spiOut := by
  have h := s.recRead_spiOut
  unfold State.recInit
  split <;> simp_all
@[simp] theorem State.recInit_spiOidx : (s.recInit.1).spiOidx = s.spiOidx := by
  have h := s.recRead_spiOidx
  unfold State.recInit
  split <;> simp_all
@[simp] theorem State.recInit_resetRequired : (s.recInit.1).resetRequired = s.resetRequired := by
  have h := s.recRead_resetRequired
  unfold State.recInit
  split <;> simp_all
@[simp] theorem State.recInit_rxOverrunFrame : (s.recInit.1).rxOverrunFrame = s.rxOverrunFrame := by
  have h := s.recRead_rxOverrunFrame
  unfold State.recInit
  split <;> simp_all
@[simp] theorem State.recInit_kbdPend : (s.recInit.1).kbdPend = s.kbdPend := by
  have h := s.recRead_kbdPend
  unfold State.recInit
  split <;> simp_all
@[simp] theorem State.recInit_kbd : (s.recInit.1).kbd = s.kbd := by
  have h := s.recRead_kbd
  unfold State.recInit
  split <;> simp_all
@[simp] theorem State.recInit_mouse : (s.recInit.1).mouse = s.mouse := by
  have h := s.recRead_mouse
  unfold State.recInit
  split <;> simp_all
@[simp] theorem State.recInit_env : (s.recInit.1).env = s.env := by
  have h := s.recRead_env
  unfold State.recInit
  split <;> simp_all
@[simp] theorem State.recInit_loop : (s.recInit.1).loop = s.loop := by
  have h := s.recRead_loop
  unfold State.recInit
  split <;> simp_all
@[simp] theorem State.recInit_result : (s.recInit.1).result = s.result := by
  have h := s.recRead_result
  unfold State.recInit
  split <;> simp_all
@[simp] theorem State.recInit_out : (s.recInit.1).out = s.out := by
  have h := s.recRead_out
  unfold State.recInit
  split <;> simp_all
@[simp] theorem State.recInit_draws : (s.recInit.1).draws = s.draws := by
  have h := s.recRead_draws
  unfold State.recInit
  split <;> simp_all
@[simp] theorem State.recInit_sched : (s.recInit.1).sched = s.sched := by
  have h := s.recRead_sched
  unfold State.recInit
  split <;> simp_all

/-! ### `settle` -/

@[simp] theorem State.settle_cfg : (s.settle).cfg = s.cfg := rfl
@[simp] theorem State.settle_crc : (s.settle).crc = s.crc := rfl
@[simp] theorem State.settle_rxBuf : (s.settle).rxBuf = s.rxBuf := rfl
@[simp] theorem State.settle_rxIdx : (s.settle).rxIdx = s.rxIdx := rfl
@[simp] theorem State.settle_req : (s.settle).req = s.req := rfl
@[simp] theorem State.settle_disp : (s.settle).disp = s.disp := rfl
@[simp] theorem State.settle_lastResp : (s.settle).lastResp = s.lastResp := rfl
@[simp] theorem State.settle_lastValid : (s.settle).lastValid = s.lastValid := rfl
@[simp] theorem State.settle_spiOut : (s.settle).spiOut = s.spiOut := rfl
@[simp] theorem State.settle_spiOidx : (s.settle).spiOidx = s.spiOidx := rfl
@[simp] theorem State.settle_nv : (s.settle).nv = s.nv := rfl
@[simp] theorem State.settle_resetRequired : (s.settle).resetRequired = s.resetRequired := rfl
@[simp] theorem State.settle_rxOverrunFrame : (s.settle).rxOverrunFrame = s.rxOverrunFrame := rfl
@[simp] theorem State.settle_kbdPend : (s.settle).kbdPend = s.kbdPend := rfl
@[simp] theorem State.settle_kbd : (s.settle).kbd = s.kbd := rfl
@[simp] theorem State.settle_mouse : (s.settle).mouse = s.mouse := rfl
@[simp] theorem State.settle_env : (s.settle).env = s.env := rfl
@[simp] theorem State.settle_loop : (s.settle).loop = s.loop := rfl
@[simp] theorem State.settle_result : (s.settle).result = s.result := rfl
@[simp] theorem State.settle_out : (s.settle).out = s.out := rfl
@[simp] theorem State.settle_draws : (s.settle).draws = s.draws := rfl
@[simp] theorem State.settle_sched : (s.settle).sched = s.sched := rfl
@[simp] theorem State.settle_nvTorn : s.settle.nvTorn = none := rfl

/-! ### `advance` -/

@[simp] theorem State.advance_cfg : (s.advance).cfg = s.cfg := rfl
@[simp] theorem State.advance_crc : (s.advance).crc = s.crc := rfl
@[simp] theorem State.advance_rxBuf : (s.advance).rxBuf = s.rxBuf := rfl
@[simp] theorem State.advance_rxIdx : (s.advance).rxIdx = s.rxIdx := rfl
@[simp] theorem State.advance_req : (s.advance).req = s.req := rfl
@[simp] theorem State.advance_disp : (s.advance).disp = s.disp := rfl
@[simp] theorem State.advance_lastResp : (s.advance).lastResp = s.lastResp := rfl
@[simp] theorem State.advance_lastValid : (s.advance).lastValid = s.lastValid := rfl
@[simp] theorem State.advance_spiOut : (s.advance).spiOut = s.spiOut := rfl
@[simp] theorem State.advance_spiOidx : (s.advance).spiOidx = s.spiOidx := rfl
@[simp] theorem State.advance_nv : (s.advance).nv = s.nv := rfl
@[simp] theorem State.advance_resetRequired : (s.advance).resetRequired = s.resetRequired := rfl
@[simp] theorem State.advance_rxOverrunFrame : (s.advance).rxOverrunFrame = s.rxOverrunFrame := rfl
@[simp] theorem State.advance_kbdPend : (s.advance).kbdPend = s.kbdPend := rfl
@[simp] theorem State.advance_kbd : (s.advance).kbd = s.kbd := rfl
@[simp] theorem State.advance_mouse : (s.advance).mouse = s.mouse := rfl
@[simp] theorem State.advance_env : (s.advance).env = s.env := rfl
@[simp] theorem State.advance_result : (s.advance).result = s.result := rfl
@[simp] theorem State.advance_out : (s.advance).out = s.out := rfl
@[simp] theorem State.advance_draws : (s.advance).draws = s.draws := rfl
@[simp] theorem State.advance_nvTorn : (s.advance).nvTorn = s.nvTorn := rfl
@[simp] theorem State.advance_sched : (s.advance).sched = s.sched := rfl
@[simp] theorem State.advance_loop : s.advance.loop = s.loop.succ := rfl

/-! ### `popEvent` -/

@[simp] theorem State.popEvent_cfg : (s.popEvent).cfg = s.cfg := rfl
@[simp] theorem State.popEvent_crc : (s.popEvent).crc = s.crc := rfl
@[simp] theorem State.popEvent_rxBuf : (s.popEvent).rxBuf = s.rxBuf := rfl
@[simp] theorem State.popEvent_rxIdx : (s.popEvent).rxIdx = s.rxIdx := rfl
@[simp] theorem State.popEvent_req : (s.popEvent).req = s.req := rfl
@[simp] theorem State.popEvent_disp : (s.popEvent).disp = s.disp := rfl
@[simp] theorem State.popEvent_lastResp : (s.popEvent).lastResp = s.lastResp := rfl
@[simp] theorem State.popEvent_lastValid : (s.popEvent).lastValid = s.lastValid := rfl
@[simp] theorem State.popEvent_spiOut : (s.popEvent).spiOut = s.spiOut := rfl
@[simp] theorem State.popEvent_spiOidx : (s.popEvent).spiOidx = s.spiOidx := rfl
@[simp] theorem State.popEvent_nv : (s.popEvent).nv = s.nv := rfl
@[simp] theorem State.popEvent_resetRequired : (s.popEvent).resetRequired = s.resetRequired := rfl
@[simp] theorem State.popEvent_rxOverrunFrame : (s.popEvent).rxOverrunFrame = s.rxOverrunFrame := rfl
@[simp] theorem State.popEvent_kbdPend : (s.popEvent).kbdPend = s.kbdPend := rfl
@[simp] theorem State.popEvent_kbd : (s.popEvent).kbd = s.kbd := rfl
@[simp] theorem State.popEvent_mouse : (s.popEvent).mouse = s.mouse := rfl
@[simp] theorem State.popEvent_env : (s.popEvent).env = s.env := rfl
@[simp] theorem State.popEvent_loop : (s.popEvent).loop = s.loop := rfl
@[simp] theorem State.popEvent_result : (s.popEvent).result = s.result := rfl
@[simp] theorem State.popEvent_out : (s.popEvent).out = s.out := rfl
@[simp] theorem State.popEvent_draws : (s.popEvent).draws = s.draws := rfl
@[simp] theorem State.popEvent_nvTorn : (s.popEvent).nvTorn = s.nvTorn := rfl
@[simp] theorem State.popEvent_sched : s.popEvent.sched = s.sched.tail := rfl

end Sys2Proof.Machine
end

