-- ==== Sys2Proof/Laws/Memory.lean ====
section
/-! SUPPORT. Laws of `MemRead` and `MemWrite` on the three byte spaces (20_memory.md R60): cells beyond the eighth do not exist, a
whole unit is read in index order, a byte written is read back, and every other cell of every space keeps its byte. -/

namespace Sys2Proof.Machine

/-- Reading all eight cells gives the unit, index 0 first. -/
@[simp] theorem memRead_unit (s : State) (sp : Space) : memRead s sp 0 8 = .ok (s.unit sp).toList := rfl

/-- An access beyond the eighth cell is refused by name. -/
theorem memRead_out_of_range (s : State) (sp : Space) {i n : Nat} (h : 8 < i + n) :
    memRead s sp i n = .error (.noSuchCell sp i n) := by
  simp [memRead, show ¬(i + n ≤ 8) by omega]

/-- A write beyond the eighth cell is refused by name. -/
theorem memWrite_out_of_range (s : State) (sp : Space) {i : Nat} {v : List Byte} (h : 8 < i + v.length) :
    memWrite s sp i v = .error (.noSuchCell sp i v.length) := by
  simp [memWrite, show ¬(i + v.length ≤ 8) by omega]

/-- Reading one existing cell. -/
theorem memRead_one (s : State) (sp : Space) {k : Nat} (hk : k < 8) : memRead s sp k 1 = .ok [(s.unit sp).get k] := by
  interval_cases k <;> rfl

@[simp] theorem unit_setUnit (s : State) (sp : Space) (f : Frame) : (s.setUnit sp f).unit sp = f := by cases sp <;> rfl

/-- Writing one space leaves the others alone. -/
theorem unit_setUnit_ne (s : State) {sp sp' : Space} (h : sp' ≠ sp) (f : Frame) :
    (s.setUnit sp f).unit sp' = s.unit sp' := by
  cases sp <;> cases sp' <;> first | rfl | exact absurd rfl h

/-- Writing a whole unit replaces it. -/
theorem memWrite_unit (s : State) (sp : Space) (f : Frame) : memWrite s sp 0 f.toList = .ok (s.setUnit sp f) := by
  cases f; rfl

/-- A byte written to an existing cell: what every cell of the space reads afterwards. -/
theorem memWrite_one (s : State) (sp : Space) {k : Nat} (hk : k < 8) (b : Byte) :
    memWrite s sp k [b] = .ok (s.setUnit sp ((s.unit sp).set k b)) := by
  simp [memWrite, show k + 1 ≤ 8 by omega, Frame.write]

/-- Read after write, one byte. -/
theorem memRead_memWrite_same (s : State) (sp : Space) {k : Nat} (hk : k < 8) (b : Byte) :
    (memWrite s sp k [b]).bind (fun t => memRead t sp k 1) = .ok [b] := by
  rw [memWrite_one s sp hk]
  simp [Except.bind, memRead_one _ sp hk, Frame.get_set_same _ hk]

/-- A write leaves every other cell alone. -/
theorem memRead_memWrite_ne (s : State) (sp sp' : Space) {k j : Nat} (hk : k < 8) (hj : j < 8) (h : sp' ≠ sp ∨ j ≠ k)
    (b : Byte) : (memWrite s sp k [b]).bind (fun t => memRead t sp' j 1) = memRead s sp' j 1 := by
  rw [memWrite_one s sp hk]
  simp only [Except.bind, memRead_one _ sp' hj]
  by_cases e : sp' = sp
  · subst e
    rw [unit_setUnit, Frame.get_set_ne _ (by simpa using h)]
  · rw [unit_setUnit_ne s e]

end Sys2Proof.Machine
end

