-- ==== Sys2Proof/Laws/Ops.lean ====
section
/-! SUPPORT. One lemma per shared operation that says once everything it can do: enqueueing, composing and answering, the record,
the schedule.  Proofs cite these instead of unfolding the operation. -/

namespace Sys2Proof.Machine

/-! ### What well-formed parameters give the composer (R9) -/

/-- `ST_OK` is a bit. -/
theorem stOk_ne_zero {p : Params} (h : p.WF) : p.stOk ≠ 0#8 := (h.2.1.2.2.1 p.stOk (by simp [Params.statusBits])).1

/-- The error codes are not 0 and have the `ST_OK` bit clear (R9 item 3). -/
theorem errorCode_ok {p : Params} (h : p.WF) {e : Byte} (he : e ∈ p.errorCodes) : e ≠ 0#8 ∧ e ≠ p.stOk := by
  have k := h.2.1.2.1 e he
  refine ⟨k.1, fun e' => ?_⟩
  rw [e'] at k
  exact k.1 (by simpa using k.2)

theorem stCrcError_ok {p : Params} (h : p.WF) : p.stCrcError ≠ 0#8 ∧ p.stCrcError ≠ p.stOk :=
  errorCode_ok h (by simp [Params.errorCodes])

theorem stTimeoutError_ok {p : Params} (h : p.WF) : p.stTimeoutError ≠ 0#8 ∧ p.stTimeoutError ≠ p.stOk :=
  errorCode_ok h (by simp [Params.errorCodes])

theorem stInvalidError_ok {p : Params} (h : p.WF) : p.stInvalidError ≠ 0#8 ∧ p.stInvalidError ≠ p.stOk :=
  errorCode_ok h (by simp [Params.errorCodes])

/-! ### Composing and answering -/

/-- An error status is bare (R212). -/
theorem statusByte_error (s : State) {st : Byte} (h : st ≠ s.cfg.stOk) : statusByte s st = st := by simp [statusByte, h]

/-- A status other than 0 is composed. -/
theorem respond_compose (s : State) {st : Byte} (h : st ≠ 0#8) : s.respond st = s.compose st := by simp [State.respond, h]

/-- Status 0 is the request to repeat. -/
@[simp] theorem respond_zero (s : State) : s.respond 0#8 = s := by simp [State.respond, State.repeatResponse]

/-- The entry to an outcome with a fresh response. -/
theorem enterOutcome_eq (s : State) {st : Byte} (h : st ≠ 0#8) : s.enterOutcome st = s.answered (statusByte s st) := by
  simp [State.enterOutcome, respond_compose s h, State.compose, State.answered, State.responseFrame, responseSix, crcSix,
    Six.toList]

/-- The entry to an error outcome. -/
theorem enterOutcome_error (s : State) {st : Byte} (h : st ≠ 0#8 ∧ st ≠ s.cfg.stOk) : s.enterOutcome st = s.answered st := by
  rw [enterOutcome_eq s h.1, statusByte_error s h.2]

/-- The entry to an OK outcome. -/
theorem enterOutcome_ok (s : State) (h : s.cfg.WF) : s.enterOutcome s.cfg.stOk = s.answeredOk :=
  enterOutcome_eq s (stOk_ne_zero h)

/-- A request that the magic policy lets through is answered by its rule. -/
theorem answer_accepts (s : State) {m : Byte} (h : s.accepts m) (rule : State → State × Byte) :
    s.answer (s.magicOk m) rule = (rule s).1.enterOutcome (rule s).2 := by
  unfold State.answer State.magicOk
  rw [if_neg]
  rcases h with h | h <;> simp [h]

/-- A request that the magic policy turns away is answered `INVALID_ERROR`, and its rule does not run. -/
theorem answer_rejects (s : State) {m : Byte} (hp : s.cfg.magicPolicy = .invalid) (h : m ≠ s.cfg.requestMagic)
    (rule : State → State × Byte) : s.answer (s.magicOk m) rule = s.enterOutcome s.cfg.stInvalidError := by
  simp [State.answer, State.magicOk, hp, h]

/-! ### Operands and decoding, in the words of the rules -/

/-- R99. -/
theorem pressedOf_eq (b : Byte) : pressedOf b = decide (b ≠ 0#8) := by
  by_cases h : b = 0#8 <;> simp [pressedOf, h]

/-- R100. -/
theorem flagOf_eq (b : Byte) : flagOf b = decide (b ≠ 0#8) := by
  by_cases h : b = 0#8 <;> simp [flagOf, h]

/-- R105. -/
theorem buttonOf_eq (b : ButtonPair) (p0 p1 : Byte) :
    buttonOf b p0 p1 = ⟨decide ((if b.inByte1 then p1 else p0) &&& b.select ≠ 0#8),
      decide ((if b.inByte1 then p1 else p0) &&& b.state ≠ 0#8)⟩ := by
  simp only [buttonOf, ButtonState.mk.injEq]
  constructor <;> (apply Bool.eq_iff_iff.mpr; simp)

/-- R155, with the check written out. -/
theorem decodeRequest_eq (p : Params) (f : Frame) :
    decodeRequest p f = if crcBlock [f.b0, f.b1, f.b2, f.b3, f.b4, f.b5] = f.b6 ++ f.b7
      then .ok (decide (f.b0 = p.requestMagic)) f.b1 f.b2 f.b3 f.b4 f.b5 else .crcErr := by
  by_cases h : crcBlock [f.b0, f.b1, f.b2, f.b3, f.b4, f.b5] = f.b6 ++ f.b7 <;>
    simp [decodeRequest, crcCheck, merge16, crcSix, Frame.six, Six.toList, h, BEq.beq]

/-- A driver call appends to the output and changes nothing else. -/
theorem call_eq (s : State) (c : Call) : s.call c = { s with out := s.out ++ [.call c] } := rfl

/-- Answering OK after a change of the state that keeps the build. -/
theorem enterOutcome_ok_of {s t : State} (hc : t.cfg = s.cfg) (h : s.cfg.WF) : t.enterOutcome s.cfg.stOk = t.answeredOk := by
  rw [← hc] at h ⊢
  exact enterOutcome_ok t h

/-! ### Enqueueing -/

/-- With room, a byte goes to the tail of the queue. -/
theorem Channel.enqueue_room {d : Nat} {c : Channel} (h : c.txq.length < d) (b : Byte) :
    c.enqueue d b = { c with txq := c.txq ++ [b] } := by simp [Channel.enqueue, h]

/-- On a full queue a byte is dropped and flagged. -/
theorem Channel.enqueue_full {d : Nat} {c : Channel} (h : d ≤ c.txq.length) (b : Byte) :
    c.enqueue d b = { c with txqOverflow := true } := by simp [Channel.enqueue, show ¬(c.txq.length < d) by omega]

/-- Enqueueing on one channel after another enqueueing on it. -/
theorem State.enqueueAll_cons (s : State) (ch : Chan) (b : Byte) (bs : List Byte) :
    s.enqueueAll ch (b :: bs) = (s.enqueue ch b).enqueueAll ch bs := rfl

/-- Several bytes with room for all of them. -/
theorem State.enqueueAll_room {s : State} {ch : Chan} {bs : List Byte} (h : s.room ch bs.length) :
    s.enqueueAll ch bs = s.queued ch bs := by
  induction bs generalizing s with
  | nil =>
    cases ch <;> simp [State.queued, State.setChan, State.chan]
  | cons b bs ih =>
    simp only [State.room, List.length_cons] at h
    have e : s.enqueue ch b = s.queued ch [b] := by
      simp [State.enqueue, State.queued, Channel.enqueue_room (show (s.chan ch).txq.length < s.cfg.ps2TxqDepth by omega)]
    rw [State.enqueueAll_cons, e, ih]
    · simp [State.queued]
    · simp [State.room, State.queued]
      omega

/-- Several bytes on a queue within its bound: all that `PS2.ENQUEUE` does, byte after byte. -/
theorem State.enqueueAll_offered {s : State} {ch : Chan} {bs : List Byte} (h : (s.chan ch).txq.length ≤ s.cfg.ps2TxqDepth) :
    s.enqueueAll ch bs = s.offered ch bs := by
  induction bs generalizing s with
  | nil =>
    have e : ¬(s.cfg.ps2TxqDepth < (s.chan ch).txq.length) := by omega
    simp only [State.enqueueAll, State.offered, List.foldl_nil, List.append_nil, List.length_nil, Nat.add_zero,
      List.take_of_length_le h, decide_eq_false e, Bool.or_false]
    cases ch <;> rfl
  | cons b bs ih =>
    rw [State.enqueueAll_cons]
    by_cases r : (s.chan ch).txq.length < s.cfg.ps2TxqDepth
    · rw [State.enqueue, Channel.enqueue_room r, ih (by simp; omega)]
      have e : s.cfg.ps2TxqDepth < (s.chan ch).txq.length + 1 + bs.length ↔
          s.cfg.ps2TxqDepth < (s.chan ch).txq.length + (bs.length + 1) := by omega
      simp [State.offered, e]
    · rw [State.enqueue, Channel.enqueue_full (by omega), ih (by simp; omega)]
      have l : (s.chan ch).txq.length = s.cfg.ps2TxqDepth := by omega
      simp [State.offered, ← l]

/-- A channel is at rest exactly when neither state machine is in a frame. -/
theorem Channel.atRest_iff (c : Channel) : c.atRest = true ↔ c.rxFsm = .idle ∧ c.txFsm = .txIdle := by simp [Channel.atRest]

/-! ### The record -/

/-- A record that passes R311 reads as its selection byte. -/
theorem recRead_valid {s : State} (h : s.recordValid) :
    s.recRead = ({ s with crc := crcBlock [s.nv.b0, s.nv.b1, s.nv.b2, s.nv.b3, s.nv.b4, s.nv.b5] }, some s.nv.b1) := by
  have c : crcCheck s.nv = true := by
    simpa [crcCheck, crcSix, Frame.six, Six.toList] using h.2.symm
  simp [State.recRead, h.1, c, State.runCrc, crcSix, Frame.six, Six.toList]

/-- A record that fails R311 reads as absent; only the CRC register may have moved. -/
theorem recRead_invalid {s : State} (h : ¬s.recordValid) : ∃ c, s.recRead = ({ s with crc := c }, none) := by
  by_cases m : s.nv.b0 = s.cfg.storageMagic
  · have c : crcCheck s.nv = false := by
      simp only [State.recordValid, m, true_and] at h
      simp only [crcCheck, crcSix, Frame.six, Six.toList, beq_eq_false_iff_ne]
      rw [m]
      exact fun e => h e.symm
    exact ⟨crcSix s.nv.six, by simp [State.recRead, m, c, State.runCrc]⟩
  · exact ⟨s.crc, by simp [State.recRead, m]⟩

/-- All that a record write does: the record, the CRC register, and the old content kept where a restart can tear the write. -/
theorem recWrite_eq (s : State) (v : Byte) : s.recWrite v = { s with
    nv := s.record v
    crc := crcBlock [s.cfg.storageMagic, v, 0#8, 0#8, 0#8, 0#8]
    nvTorn := if s.cfg.nvWriteAtomic then s.nvTorn else some s.nv } := rfl

/-- What a record write leaves: a valid record holding the byte. -/
theorem recWrite_nv (s : State) (v : Byte) : (s.recWrite v).nv = s.record v := rfl

theorem recWrite_recordValid (s : State) (v : Byte) : (s.recWrite v).recordValid := by
  refine ⟨rfl, ?_⟩
  simp [State.recWrite, crcAppend, crcSix, Six.toList]

/-! ### The schedule -/

@[simp] theorem mapNext_next (f : State → State) (s : State) : mapNext f (.next s) = .next (f s) := rfl

/-- With nothing scheduled, `MAIN` goes on. -/
theorem step_of_sched_nil {s : State} (h : s.sched = []) : step s = ({ s with nvTorn := none } : State).mainStep := by
  cases s
  simp_all [step, State.nextEvent, State.popEvent, runEvent, State.settle]

/-- The head of the schedule is the event that takes place. -/
theorem step_of_sched_cons {s : State} {e : Event} {es : List Event} (h : s.sched = e :: es) :
    step s = runEvent e { s with sched := es } := by
  simp [step, State.nextEvent, State.popEvent, h]

/-- A scheduled row of an agent: its step where the agent is enabled, and no change elsewhere. -/
theorem step_of_op {s : State} {i : Instr} {es : List Event} (h : s.sched = .op i :: es) (o : isEvent i = true) :
    step s = if s.stepEnabled i then exec (agentStep i) { s with sched := es, nvTorn := none }
      else .next { s with sched := es, nvTorn := none } := by
  have e : ({ s with sched := es } : State).stepEnabled i = s.stepEnabled i := by
    simp only [State.stepEnabled]
    cases channelOf i with
    | none => rfl
    | some ch => cases ch <;> rfl
  rw [step_of_sched_cons h]
  simp only [runEvent, o, if_true, e, State.settle]

theorem runSteps_succ (n : Nat) (s : State) {t : State} (h : step s = .next t) : runSteps (n + 1) s = runSteps n t := by
  simp [runSteps, h]

theorem execAll_cons (i : Instr) (is : List Instr) (s : State) {t : State} (h : exec i s = .next t) :
    execAll (i :: is) s = execAll is t := by
  simp [execAll, h]

/-- Running a list of instructions after another one that ends in a next state. -/
theorem execAll_append {is js : List Instr} {s t : State} (h : execAll is s = .next t) :
    execAll (is ++ js) s = execAll js t := by
  induction is generalizing s with
  | nil => simp only [execAll, Host.Outcome.next.injEq] at h; subst h; rfl
  | cons i is ih =>
    simp only [execAll, List.cons_append] at h ⊢
    split at h
    · exact ih h
    · cases h
    · cases h

end Sys2Proof.Machine
end

