-- ==== Sys2Proof/Laws/PerInstr.lean ====
section
/-! SUPPORT. Per-instruction law: the encoding of every well-formed row decodes to that row, at the place the row is read at. -/

namespace Sys2Proof.Laws.RoundTrip

/-- Under well-formed parameters, what `encode` gives for a well-formed row decodes to the row, with every operand. -/
def Statement (i : Instr) : Prop :=
  ∀ p : Params, p.WF → i.wf p = true → ∀ src bs, i.source? p = some src → encode p i = some bs → decode p src bs = .ok i

/-- A frame decodes as its bytes do. -/
theorem decode_toList (p : Params) (f : Frame) : decode p .request f.toList = .ok (decodeFrame p f) := by cases f; rfl

/-- The frame built for a command byte decodes by that command byte. -/
theorem decodeFrame_requestFrame (p : Params) (m c p0 p1 p2 p3 : Byte) :
    decodeFrame p (requestFrame m c p0 p1 p2 p3) = decodeCommand p m c p0 p1 p2 p3 := by
  simp [decodeFrame, requestFrame]

/-- A row with a frame is read among the requests, from that frame. -/
theorem ofFrame {i : Instr} {p : Params} {f : Frame} (hf : i.frame? p = some f) (hd : decodeFrame p f = i) {src bs}
    (hs : i.source? p = some src) (he : encode p i = some bs) : decode p src bs = .ok i := by
  simp only [Instr.source?, hf, Option.isSome_some, if_true, Option.some.injEq] at hs
  simp only [encode, hf, Option.some.injEq] at he
  subst hs he
  rw [decode_toList, hd]

/-- A row with a host byte is read on the keyboard channel, from that byte. -/
theorem ofByte {i : Instr} {p : Params} {b : Byte} (hf : i.frame? p = none) (hb : i.hostByte? = some b)
    (hd : decodeHostByte i.awaited b = i) {src bs} (hs : i.source? p = some src) (he : encode p i = some bs) :
    decode p src bs = .ok i := by
  simp only [Instr.source?, hf, hb, Option.isSome_some, Option.isSome_none, if_true, Bool.false_eq_true, if_false,
    Option.some.injEq] at hs
  simp only [encode, hf, hb, Option.map_some, Option.some.injEq] at he
  subst hs he
  simp only [decode, hd]

/-- The eleven codes are pairwise distinct (R9 item 1), written out for the selection of R180. -/
theorem distinct_codes {p : Params} (h : p.WF) : p.commandCodes.Nodup := h.1.1

theorem ping (a b c d e : Byte) : Statement (.ping a b c d e) := by
  intro p _ _ src bs hs he
  refine ofFrame rfl ?_ hs he
  rw [decodeFrame_requestFrame]
  simp [decodeCommand]

theorem repeatLast (a b c d e : Byte) : Statement (.repeatLast a b c d e) := by
  intro p hp _ src bs hs he
  have h := distinct_codes hp
  refine ofFrame rfl ?_ hs he
  rw [decodeFrame_requestFrame]
  simp only [Params.commandCodes, List.nodup_cons, List.mem_cons, not_or] at h
  simp [decodeCommand, h, eq_comm]

theorem setKeyboardBackend (a b c d e : Byte) : Statement (.setKeyboardBackend a b c d e) := by
  intro p hp _ src bs hs he
  have h := distinct_codes hp
  refine ofFrame rfl ?_ hs he
  rw [decodeFrame_requestFrame]
  simp only [Params.commandCodes, List.nodup_cons, List.mem_cons, not_or] at h
  simp [decodeCommand, h, eq_comm]

theorem setMouseBackend (a b c d e : Byte) : Statement (.setMouseBackend a b c d e) := by
  intro p hp _ src bs hs he
  have h := distinct_codes hp
  refine ofFrame rfl ?_ hs he
  rw [decodeFrame_requestFrame]
  simp only [Params.commandCodes, List.nodup_cons, List.mem_cons, not_or] at h
  simp [decodeCommand, h, eq_comm]

theorem setUsbConnected (a b c d e : Byte) : Statement (.setUsbConnected a b c d e) := by
  intro p hp _ src bs hs he
  have h := distinct_codes hp
  refine ofFrame rfl ?_ hs he
  rw [decodeFrame_requestFrame]
  simp only [Params.commandCodes, List.nodup_cons, List.mem_cons, not_or] at h
  simp [decodeCommand, h, eq_comm]

theorem clearAll (a b c d e : Byte) : Statement (.clearAll a b c d e) := by
  intro p hp _ src bs hs he
  have h := distinct_codes hp
  refine ofFrame rfl ?_ hs he
  rw [decodeFrame_requestFrame]
  simp only [Params.commandCodes, List.nodup_cons, List.mem_cons, not_or] at h
  simp [decodeCommand, h, eq_comm]

theorem keyEvent (a b c d e : Byte) : Statement (.keyEvent a b c d e) := by
  intro p hp _ src bs hs he
  have h := distinct_codes hp
  refine ofFrame rfl ?_ hs he
  rw [decodeFrame_requestFrame]
  simp only [Params.commandCodes, List.nodup_cons, List.mem_cons, not_or] at h
  simp [decodeCommand, h, eq_comm]

theorem mouseAbsoluteMove (a b c d e : Byte) : Statement (.mouseAbsoluteMove a b c d e) := by
  intro p hp _ src bs hs he
  have h := distinct_codes hp
  refine ofFrame rfl ?_ hs he
  rw [decodeFrame_requestFrame]
  simp only [Params.commandCodes, List.nodup_cons, List.mem_cons, not_or] at h
  simp [decodeCommand, h, eq_comm]

theorem mouseButtonEvent (a b c d e : Byte) : Statement (.mouseButtonEvent a b c d e) := by
  intro p hp _ src bs hs he
  have h := distinct_codes hp
  refine ofFrame rfl ?_ hs he
  rw [decodeFrame_requestFrame]
  simp only [Params.commandCodes, List.nodup_cons, List.mem_cons, not_or] at h
  simp [decodeCommand, h, eq_comm]

theorem mouseWheel (a b c d e : Byte) : Statement (.mouseWheel a b c d e) := by
  intro p hp _ src bs hs he
  have h := distinct_codes hp
  refine ofFrame rfl ?_ hs he
  rw [decodeFrame_requestFrame]
  simp only [Params.commandCodes, List.nodup_cons, List.mem_cons, not_or] at h
  simp [decodeCommand, h, eq_comm]

theorem mouseRelativeMove (a b c d e : Byte) : Statement (.mouseRelativeMove a b c d e) := by
  intro p hp _ src bs hs he
  have h := distinct_codes hp
  refine ofFrame rfl ?_ hs he
  rw [decodeFrame_requestFrame]
  simp only [Params.commandCodes, List.nodup_cons, List.mem_cons, not_or] at h
  simp [decodeCommand, h, eq_comm]

theorem unrecognisedCommand (a b c d e f : Byte) : Statement (.unrecognisedCommand a b c d e f) := by
  intro p _ hw src bs hs he
  refine ofFrame rfl ?_ hs he
  rw [decodeFrame_requestFrame]
  simp only [Instr.wf, Params.commandCodes, List.contains_eq_mem, Bool.not_eq_true', decide_eq_false_iff_not, List.mem_cons, not_or] at hw
  simp [decodeCommand, hw]

theorem crcMismatch (a : Frame) : Statement (.crcMismatch a) := by
  intro p _ hw src bs hs he
  refine ofFrame rfl ?_ hs he
  simp only [Instr.wf, Bool.not_eq_true'] at hw
  simp [decodeFrame, hw]

theorem kbdReset : Statement (.kbdReset) := by
  intro p _ _ src bs hs he
  exact ofByte rfl rfl rfl hs he

theorem kbdResend : Statement (.kbdResend) := by
  intro p _ _ src bs hs he
  exact ofByte rfl rfl rfl hs he

theorem kbdEcho : Statement (.kbdEcho) := by
  intro p _ _ src bs hs he
  exact ofByte rfl rfl rfl hs he

theorem kbdIdentify : Statement (.kbdIdentify) := by
  intro p _ _ src bs hs he
  exact ofByte rfl rfl rfl hs he

theorem kbdSetLeds : Statement (.kbdSetLeds) := by
  intro p _ _ src bs hs he
  exact ofByte rfl rfl rfl hs he

theorem kbdSetTypematic : Statement (.kbdSetTypematic) := by
  intro p _ _ src bs hs he
  exact ofByte rfl rfl rfl hs he

theorem kbdEnableScanning : Statement (.kbdEnableScanning) := by
  intro p _ _ src bs hs he
  exact ofByte rfl rfl rfl hs he

theorem kbdDisable : Statement (.kbdDisable) := by
  intro p _ _ src bs hs he
  exact ofByte rfl rfl rfl hs he

theorem kbdDefault : Statement (.kbdDefault) := by
  intro p _ _ src bs hs he
  exact ofByte rfl rfl rfl hs he

theorem kbdAnyOther (a : Byte) : Statement (.kbdAnyOther a) := by
  intro p _ hw src bs hs he
  refine ofByte rfl rfl ?_ hs he
  simp only [Instr.wf, namedHostBytes, List.contains_eq_mem, Bool.not_eq_true', decide_eq_false_iff_not, List.mem_cons, not_or] at hw
  simp [decodeHostByte, Instr.awaited, hw]

theorem kbdParameterByte (a : Byte) : Statement (.kbdParameterByte a) := by
  intro p _ _ src bs hs he
  exact ofByte rfl rfl rfl hs he

theorem crc16Init : Statement (.crc16Init) := by
  intro _ _ _ _ _ _ he
  cases he

theorem crc16Bit : Statement (.crc16Bit) := by
  intro _ _ _ _ _ _ he
  cases he

theorem crc16Byte (a : Byte) : Statement (.crc16Byte a) := by
  intro _ _ _ _ _ _ he
  cases he

theorem crc16Block (a : List Byte) : Statement (.crc16Block a) := by
  intro _ _ _ _ _ _ he
  cases he

theorem crc16Check (a : Frame) : Statement (.crc16Check a) := by
  intro _ _ _ _ _ _ he
  cases he

theorem crc16Append (a : Six) : Statement (.crc16Append a) := by
  intro _ _ _ _ _ _ he
  cases he

theorem frameRxbyte (a : Byte) : Statement (.frameRxbyte a) := by
  intro _ _ _ _ _ _ he
  cases he

theorem frameTake : Statement (.frameTake) := by
  intro _ _ _ _ _ _ he
  cases he

theorem frameTimeout : Statement (.frameTimeout) := by
  intro _ _ _ _ _ _ he
  cases he

theorem frameDecode (a : Frame) : Statement (.frameDecode a) := by
  intro _ _ _ _ _ _ he
  cases he

theorem dispatch : Statement (.dispatch) := by
  intro _ _ _ _ _ _ he
  cases he

theorem frameEncode (a b c : Byte) : Statement (.frameEncode a b c) := by
  intro _ _ _ _ _ _ he
  cases he

theorem frameEmit : Statement (.frameEmit) := by
  intro _ _ _ _ _ _ he
  cases he

theorem spiExchange (a : Byte) : Statement (.spiExchange a) := by
  intro _ _ _ _ _ _ he
  cases he

theorem respCompose (a : Byte) : Statement (.respCompose a) := by
  intro _ _ _ _ _ _ he
  cases he

theorem respRepeat : Statement (.respRepeat) := by
  intro _ _ _ _ _ _ he
  cases he

theorem ps2Sample (a : Chan) : Statement (.ps2Sample a) := by
  intro _ _ _ _ _ _ he
  cases he

theorem ps2Take (a : Chan) : Statement (.ps2Take a) := by
  intro _ _ _ _ _ _ he
  cases he

theorem ps2Enqueue (a : Chan) (b : Byte) : Statement (.ps2Enqueue a b) := by
  intro _ _ _ _ _ _ he
  cases he

theorem ps2Rxframe (a : Chan) (b : BitVec 11) : Statement (.ps2Rxframe a b) := by
  intro _ _ _ _ _ _ he
  cases he

theorem ps2Txframe (a : Chan) : Statement (.ps2Txframe a) := by
  intro _ _ _ _ _ _ he
  cases he

theorem kbdHostbyte : Statement (.kbdHostbyte) := by
  intro _ _ _ _ _ _ he
  cases he

theorem kbdKeyseq (a : Byte) (b : Bool) : Statement (.kbdKeyseq a b) := by
  intro _ _ _ _ _ _ he
  cases he

theorem recRead : Statement (.recRead) := by
  intro _ _ _ _ _ _ he
  cases he

theorem recWrite (a : Byte) : Statement (.recWrite a) := by
  intro _ _ _ _ _ _ he
  cases he

theorem recUpdate (a b : Byte) (c : Bool) : Statement (.recUpdate a b c) := by
  intro _ _ _ _ _ _ he
  cases he

theorem recInit : Statement (.recInit) := by
  intro _ _ _ _ _ _ he
  cases he

end Sys2Proof.Laws.RoundTrip
end

