-- ==== Sys2Proof/Tests/Slice0.lean ====
section
/-! SUPPORT. Tests.  Expected values are those of spec/95_test_vectors.md (V<family>.<number>, programs P1 to P6), which states them
for `P_REF`; words are written out from the encodings of 30_encoding.md.  The last part gives, for every statement with
hypotheses, a concrete state that meets them. -/

namespace Sys2Proof.Tests

open Sys2Proof.Machine

set_option maxRecDepth 100000

/-- The next state, where there is one. -/
def nextOf : Step → Option State
  | .next s => some s
  | _ => none

/-- The state after one instruction. -/
def after (i : Instr) (s : State) : Option State := nextOf (exec i s)

/-- The state after one step. -/
def stepped (s : State) : Option State := nextOf (step s)

/-- The record bytes of the vectors: `33 09 … D9 D9`, `33 0B … 19 A0`. -/
def record09 : Frame := ⟨0x33, 0x09, 0, 0, 0, 0, 0xD9, 0xD9⟩
def record0B : Frame := ⟨0x33, 0x0B, 0, 0, 0, 0, 0x19, 0xA0⟩

/-- The standard state of the vectors: after boot from a valid record holding 0x09. -/
def standard : State := State.boot { State.reset with nv := record09 }

/-- After boot from a record that selects PS/2 on both channels, the environment as at reset. -/
def ps2Ready : State := State.boot { State.reset with nv := crcAppend ⟨0x33, 0x1B, 0, 0, 0, 0⟩ }

/-- The standard state on the SPI transport. -/
def spiReady : State := { standard with cfg := { pRef with transport := .spi } }

/-! ### Parameters (R9, R295) -/

theorem pRef_commands : pRef.CommandsOk := by decide
theorem pRef_status : pRef.StatusOk := by decide
theorem pRef_backend : pRef.BackendOk := by decide
theorem pRef_caps : pRef.CapsOk := by decide
theorem pRef_buttons : pRef.ButtonsOk := by decide
theorem pRef_transport : pRef.TransportOk := by decide
theorem pRef_leftArrow : pRef.LeftArrowOk := by decide

/-- `P_REF` "satisfies every constraint of R9". -/
theorem pRef_wf : pRef.WF :=
  ⟨pRef_commands, pRef_status, pRef_backend, pRef_caps, pRef_buttons, pRef_transport, pRef_leftArrow⟩

theorem test_equal_codes_refused : ¬({ pRef with cmdPing := 0x02 } : Params).CommandsOk := by decide
theorem test_code_0xFF_refused : ¬({ pRef with cmdPing := 0xFF } : Params).CommandsOk := by decide
theorem test_equal_error_codes_refused : ¬({ pRef with stCrcError := 0x45 } : Params).StatusOk := by decide
theorem test_error_code_with_ok_bit_refused : ¬({ pRef with stCrcError := 0xC0 } : Params).StatusOk := by decide
theorem test_two_bit_status_mask_refused : ¬({ pRef with stOk := 0xA0 } : Params).StatusOk := by decide
theorem test_shared_status_bit_refused : ¬({ pRef with stLedNum := 0x01 } : Params).StatusOk := by decide
theorem test_overlapping_backend_masks_refused : ¬({ pRef with bkKbdMask := 0x0F } : Params).BackendOk := by decide
theorem test_keyboard_value_outside_mask_refused : ¬({ pRef with kbdPs2 := 0x0B } : Params).BackendOk := by decide
theorem test_mouse_value_outside_mask_refused : ¬({ pRef with mousePs2 := 0x01 } : Params).BackendOk := by decide
theorem test_equal_mouse_values_refused : ¬({ pRef with mousePs2 := 0x08 } : Params).BackendOk := by decide
theorem test_shared_capability_bit_refused : ¬({ pRef with capHasPs2 := 0x01 } : Params).CapsOk := by decide
theorem test_shared_button_bit_refused : ¬({ pRef with btnRight := ⟨false, 0x80, 0x04⟩ } : Params).ButtonsOk := by decide
theorem test_short_queue_refused : ¬({ pRef with ps2TxqDepth := 2 } : Params).TransportOk := by decide
theorem test_spi_zero_magic_refused : ¬({ pRef with transport := .spi, requestMagic := 0 } : Params).TransportOk := by decide
theorem test_left_arrow_without_entry_refused : ¬({ pRef with ps2Scancode := [] } : Params).LeftArrowOk := by decide

/-! ### Well-formed syntax: an ill-formed term for each check -/

theorem test_wf_ping : Instr.wf pRef (.ping 0x33 0 0 0 0) = true := by decide
theorem test_wf_unrecognised_with_known_code_refused :
    Instr.wf pRef (.unrecognisedCommand 0x33 0x01 0 0 0 0) = false := by decide
theorem test_wf_mismatch_with_good_crc_refused :
    Instr.wf pRef (.crcMismatch ⟨0x33, 0x01, 0, 0, 0, 0, 0x18, 0x38⟩) = false := by decide
theorem test_wf_any_other_named_byte_refused : Instr.wf pRef (.kbdAnyOther 0xF4) = false := by decide
theorem test_wf_compose_zero_refused : Instr.wf pRef (.respCompose 0) = false := by decide

/-! ### Decoding: a word written out for each encoded row (the frames of 95_test_vectors.md L2.3, bytes of R107) -/

theorem test_decode_ping : decodeTableWord 64 0x3301000000001838 = some (.ping 0x33 0 0 0 0) := by decide
theorem test_decode_repeat_last : decodeTableWord 64 0x330200000000187C = some (.repeatLast 0x33 0 0 0 0) := by decide
theorem test_decode_set_keyboard_backend :
    decodeTableWord 64 0x3303030000009C41 = some (.setKeyboardBackend 0x33 0x03 0 0 0) := by decide
theorem test_decode_set_mouse_backend :
    decodeTableWord 64 0x330410000000D8F0 = some (.setMouseBackend 0x33 0x10 0 0 0) := by decide
theorem test_decode_set_usb_connected :
    decodeTableWord 64 0x33050100000024C8 = some (.setUsbConnected 0x33 0x01 0 0 0) := by decide
theorem test_decode_clear_all : decodeTableWord 64 0x3310000000001BC4 = some (.clearAll 0x33 0 0 0 0) := by decide
theorem test_decode_key_event :
    decodeTableWord 64 0x33110401AA55B417 = some (.keyEvent 0x33 0x04 0x01 0xAA 0x55) := by decide
theorem test_decode_mouse_absolute_move :
    decodeTableWord 64 0x33121234FFFE1D39 = some (.mouseAbsoluteMove 0x33 0x12 0x34 0xFF 0xFE) := by decide
theorem test_decode_mouse_button_event :
    decodeTableWord 64 0x3313EECC00000C75 = some (.mouseButtonEvent 0x33 0xEE 0xCC 0 0) := by decide
theorem test_decode_mouse_wheel : decodeTableWord 64 0x33147F800000E72D = some (.mouseWheel 0x33 0x7F 0x80 0 0) := by decide
theorem test_decode_mouse_relative_move :
    decodeTableWord 64 0x33157F8000002710 = some (.mouseRelativeMove 0x33 0x7F 0x80 0 0) := by decide
theorem test_decode_unrecognised :
    decodeTableWord 64 0x33FF00000000CC11 = some (.unrecognisedCommand 0x33 0xFF 0 0 0 0) := by decide
theorem test_decode_crc_mismatch :
    decodeTableWord 64 0x3301000000001839 = some (.crcMismatch ⟨0x33, 0x01, 0, 0, 0, 0, 0x18, 0x39⟩) := by decide
theorem test_decode_wrong_magic_is_a_ping : decodeTableWord 64 0x000100000000DB3D = some (.ping 0 0 0 0 0) := by decide
theorem test_decode_kbd_reset : decodeTableWord 8 0xFF = some .kbdReset := by decide
theorem test_decode_kbd_resend : decodeTableWord 8 0xFE = some .kbdResend := by decide
theorem test_decode_kbd_echo : decodeTableWord 8 0xEE = some .kbdEcho := by decide
theorem test_decode_kbd_identify : decodeTableWord 8 0xF2 = some .kbdIdentify := by decide
theorem test_decode_kbd_set_leds : decodeTableWord 8 0xED = some .kbdSetLeds := by decide
theorem test_decode_kbd_set_typematic : decodeTableWord 8 0xF3 = some .kbdSetTypematic := by decide
theorem test_decode_kbd_enable_scanning : decodeTableWord 8 0xF4 = some .kbdEnableScanning := by decide
theorem test_decode_kbd_disable : decodeTableWord 8 0xF5 = some .kbdDisable := by decide
theorem test_decode_kbd_default : decodeTableWord 8 0xF6 = some .kbdDefault := by decide
theorem test_decode_kbd_any_other : decodeTableWord 8 0xF0 = some (.kbdAnyOther 0xF0) := by decide
theorem test_decode_kbd_parameter : (decode pRef (.keyboard true) [0xFF#8]).toOption = some (.kbdParameterByte 0xFF) := by decide
theorem test_decode_short_request_refused : (decode pRef .request [0x33#8]).toOption = none := by decide
theorem test_encode_key_event :
    encode pRef (.keyEvent 0x33 0x04 0x01 0 0) = some [0x33, 0x11, 0x04, 0x01, 0, 0, 0x2B, 0xA9] := by decide

/-! ### CRC16 (L2.1) -/

theorem test_crc_check_value :
    crcBlock [0x31, 0x32, 0x33, 0x34, 0x35, 0x36, 0x37, 0x38, 0x39] = 0x4B37 := by decide
theorem test_crc_init : (after .crc16Init standard).map (·.crc) = some 0xFFFF := by decide
theorem test_crc_bit : (after .crc16Bit { standard with crc := 0xFFFF }).map (·.crc) = some 0xDFFE := by decide
theorem test_crc_bit_low_zero : (after .crc16Bit { standard with crc := 0xFFCC }).map (·.crc) = some 0x7FE6 := by decide
theorem test_crc_byte : (after (.crc16Byte 0x33) { standard with crc := 0xFFFF }).map (·.crc) = some 0x55FF := by decide
theorem test_crc_block : (after (.crc16Block [0, 0, 0, 0, 0, 0]) standard).map (·.result) = some (.word 0x1B00) := by decide
theorem test_crc_check_swapped :
    (after (.crc16Check ⟨0x33, 0x01, 0, 0, 0, 0, 0x38, 0x18⟩) standard).map (·.result) = some (.bool false) := by decide
theorem test_crc_append : (after (.crc16Append ⟨0x34, 0x80, 0, 0, 0, 0⟩) standard).map (·.result)
    = some (.frame ⟨0x34, 0x80, 0, 0, 0, 0, 0xB1, 0x05⟩) := by decide

/-! ### The frame path (L2.2) -/

theorem test_rxbyte_last : (after (.frameRxbyte 0x38) { standard with rxIdx := 7 }).map (fun t => (t.rxBuf.b7, t.rxIdx))
    = some (0x38, 8) := by decide
theorem test_rxbyte_overrun : (after (.frameRxbyte 0x33) { standard with rxIdx := 8 }).map (fun t => (t.rxOverrunFrame, t.rxIdx))
    = some (true, 8) := by decide
theorem test_take : (after .frameTake { standard with rxBuf := ⟨0x33, 1, 0, 0, 0, 0, 0x18, 0x38⟩, rxIdx := 8 }).map
    (fun t => (t.req, t.rxIdx)) = some (some (.ok true 1 0 0 0 0), 0) := by decide
theorem test_take_waits : (after .frameTake { standard with rxIdx := 8, disp := .responding }).map (·.rxIdx) = some 8 := by decide
theorem test_timeout : (after .frameTimeout { standard with rxIdx := 3, env := { standard.env with timeoutElapsed := true } }).map
    (fun t => (t.req, t.rxIdx)) = some (some .timeout, 0) := by decide
theorem test_timeout_empty : (after .frameTimeout { standard with env := { standard.env with timeoutElapsed := true } }).map
    (·.disp) = some .idle := by decide
theorem test_decode_wrong_magic : (after (.frameDecode ⟨0, 1, 0, 0, 0, 0, 0xDB, 0x3D⟩) standard).map (·.result)
    = some (.req (.ok false 1 0 0 0 0)) := by decide
theorem test_dispatch_crc_error : (after .dispatch { standard with req := some .crcErr, disp := .dispatching }).map (·.lastResp)
    = some ⟨0x34, 0x40, 0x89, 0x03, 0, 0, 0xFC, 0xDF⟩ := by decide
theorem test_dispatch_timeout : (after .dispatch { standard with req := some .timeout, disp := .dispatching }).map (·.lastResp)
    = some ⟨0x34, 0x48, 0x89, 0x03, 0, 0, 0x3D, 0x3E⟩ := by decide
theorem test_encode : (after (.frameEncode 0x80 0x89 0x01) standard).map (·.result)
    = some (.frame ⟨0x34, 0x80, 0x89, 0x01, 0, 0, 0x2D, 0x7E⟩) := by decide
theorem test_emit : (after .frameEmit { standard with disp := .responding, lastValid := true, lastResp := record09 }).map
    (fun t => (t.out.getLast?, t.disp)) = some (some (.txFrame record09), .idle) := by decide
theorem test_spi_filler : (after (.spiExchange 0) spiReady).map (fun t => (t.rxIdx, t.out.getLast?))
    = some (0, some (.spiOut 0)) := by decide
theorem test_spi_zero_inside : (after (.spiExchange 0) { spiReady with rxIdx := 2 }).map (·.rxIdx) = some 3 := by decide

/-! ### Commands (L2.3) -/

/-- The response to a standard OK request. -/
def okResponse : Frame := ⟨0x34, 0x80, 0x89, 0x03, 0, 0, 0xED, 0xDF⟩

theorem test_ping : (after (.ping 0x33 0 0 0 0) standard).map (fun t => (t.lastResp, t.disp)) = some (okResponse, .responding) := by
  decide
theorem test_repeat_last : (after (.repeatLast 0x33 0 0 0 0) { standard with lastResp := record09 }).map (·.lastResp)
    = some record09 := by decide
theorem test_set_keyboard_backend : (after (.setKeyboardBackend 0x33 0xFB 0 0 0) standard).map
    (fun t => (t.nv, t.resetRequired)) = some (record0B, true) := by decide
theorem test_set_keyboard_backend_response : (after (.setKeyboardBackend 0x33 0x03 0 0 0) standard).map (·.lastResp)
    = some ⟨0x34, 0xC0, 0x89, 0x03, 0, 0, 0x22, 0xDE⟩ := by decide
theorem test_set_mouse_backend : (after (.setMouseBackend 0x33 0x10 0 0 0) { standard with nv := record0B }).map (·.nv)
    = some ⟨0x33, 0x13, 0, 0, 0, 0, 0x1B, 0x80⟩ := by decide
theorem test_set_backend_unsupported :
    (after (.setMouseBackend 0x33 0x10 0 0 0) { standard with cfg := { pRef with dynamicSupported := false } }).map
    (fun t => (t.nv, t.resetRequired, t.lastResp)) = some (record09, false, ⟨0x34, 0x80, 0x09, 0x03, 0, 0, 0x2D, 0xF6⟩) := by decide
theorem test_set_usb_connected :
    (after (.setUsbConnected 0x33 1 0 0 0) { standard with cfg := { pRef with vbusConnectable := true } }).map
    (fun t => (t.lastResp, t.out.getLast?))
    = some (⟨0x34, 0x80, 0x89, 0xC3, 0, 0, 0xD1, 0xDF⟩, some (.call (.setVbusConnected true))) := by decide
theorem test_set_usb_unsupported : (after (.setUsbConnected 0x33 1 0 0 0) standard).map (fun t => (t.lastResp, t.out))
    = some (okResponse, standard.out) := by decide
theorem test_clear_all : (after (.clearAll 0x33 0 0 0 0) standard).map (·.out)
    = some (standard.out ++ [.call .kbdClear, .call .mouseClear]) := by decide
theorem test_key_event_two_is_pressed : (after (.keyEvent 0x33 0x04 0x02 0 0) standard).map (·.out)
    = some (standard.out ++ [.call (.sendKey 0x04 true)]) := by decide
theorem test_key_event_ps2_release : (after (.keyEvent 0x33 0x50 0 0 0) ps2Ready).map (·.kbd.txq)
    = some [0xE0, 0xF0, 0x6B] := by decide
theorem test_mouse_absolute_move : (after (.mouseAbsoluteMove 0x33 0x12 0x34 0xFF 0xFE) standard).map (·.out.getLast?)
    = some (some (.call (.sendMove 4660 (-2)))) := by decide
theorem test_mouse_button_event : (after (.mouseButtonEvent 0x33 0x88 0x08 0 0) standard).map (·.out.getLast?)
    = some (some (.call (.sendButtons ⟨true, true⟩ ⟨false, false⟩ ⟨false, false⟩ ⟨false, true⟩ ⟨false, false⟩))) := by decide
theorem test_mouse_wheel : (after (.mouseWheel 0x33 0x7F 0x80 0 0) standard).map (·.out.getLast?)
    = some (some (.call (.sendWheel (-128)))) := by decide
theorem test_mouse_relative_move : (after (.mouseRelativeMove 0x33 0x7F 0x80 0 0) standard).map (·.out.getLast?)
    = some (some (.call (.sendRelative 127 (-128)))) := by decide
theorem test_unrecognised : (after (.unrecognisedCommand 0x33 0xFF 0 0 0 0) standard).map (·.lastResp)
    = some ⟨0x34, 0x45, 0x89, 0x03, 0, 0, 0xFC, 0x13⟩ := by decide
theorem test_wrong_magic_invalid : (after (.ping 0 0 0 0 0) { standard with cfg := { pRef with magicPolicy := .invalid } }).map
    (·.lastResp) = some ⟨0x34, 0x45, 0x89, 0x03, 0, 0, 0xFC, 0x13⟩ := by decide
theorem test_crc_mismatch_is_no_repeat : (after (.crcMismatch ⟨0x33, 0x02, 0, 0, 0, 0, 0x18, 0x7D⟩) standard).map (·.lastResp)
    = some ⟨0x34, 0x40, 0x89, 0x03, 0, 0, 0xFC, 0xDF⟩ := by decide

/-! ### Composing (L2.4) -/

theorem test_compose_dummies : (after (.respCompose 0x80) { standard with env := { Env.reset with
    kbdOffline := true, mouseOffline := true, leds := ⟨true, true, true⟩ } }).map (·.lastResp)
    = some ⟨0x34, 0x80, 0x80, 0x03, 0, 0, 0x71, 0xDC⟩ := by decide
theorem test_compose_error_is_bare : (after (.respCompose 0x40) { standard with resetRequired := true, env := { standard.env with
    kbdOffline := true, leds := ⟨true, true, true⟩ } }).map (·.lastResp.b1) = some 0x40 := by decide
theorem test_repeat : (after .respRepeat { standard with lastResp := record09 }).map (·.lastResp) = some record09 := by decide

/-! ### PS/2 (L2.5) -/

theorem test_wire_f2 : wire 0xF2 = 0b10111100100#11 := by decide
theorem test_wire_fa : wire 0xFA = 0b11111110100#11 := by decide
theorem test_sample_start : (after (.ps2Sample .kbd) { ps2Ready with env := { ps2Ready.env with kbdPulls := ⟨true, true⟩ } }).map
    (·.kbd.rxFsm) = some .startBit := by decide
theorem test_sample_collision : (after (.ps2Sample .kbd) { ps2Ready with
    kbd := { Channel.reset with txFsm := .txSlot 4 .setup, txq := [1] }
    env := { ps2Ready.env with kbdPulls := ⟨true, false⟩ } }).map (fun t => (t.kbd.txFsm, t.kbd.txCollision, t.kbd.txq))
    = some (.txIdle, true, [1]) := by decide
theorem test_take_byte : (after (.ps2Take .kbd) { ps2Ready with kbd := { Channel.reset with rxLatch := some 0xF2 } }).map
    (fun t => (t.result, t.kbd.rxLatch)) = some (.byte 0xF2, none) := by decide
theorem test_enqueue_full : (after (.ps2Enqueue .mouse 0xAA) { ps2Ready with mouse := { Channel.reset with
    txq := List.replicate 16 1 } }).map (fun t => (t.mouse.txq.length, t.mouse.txqOverflow)) = some (16, true) := by decide
theorem test_rxframe_bad_parity : (after (.ps2Rxframe .kbd 0b11111100100#11) ps2Ready).map (fun t => (t.kbd.rxErr, t.kbd.rxLatch))
    = some (true, none) := by decide
theorem test_rxframe_no_start : (after (.ps2Rxframe .kbd 0b11000000001#11) ps2Ready).map (·.kbd) = some Channel.reset := by decide
/-- R235, R253: while a byte is in mid-frame the byte-level step puts out nothing. -/
theorem test_txframe_in_mid_frame : (after (.ps2Txframe .kbd)
    { ps2Ready with kbd := { Channel.reset with txq := [0x6B], txFsm := .txSlot 4 .low } }).map (fun t => (t.kbd.txq, t.out.length))
    = some ([0x6B], 2) := by decide
/-- R234: nor is a frame received at the byte level while the lines carry one. -/
theorem test_rxframe_in_mid_frame : (after (.ps2Rxframe .kbd (wire 0xF2))
    { ps2Ready with kbd := { Channel.reset with rxFsm := .dataBits 3 } }).map (·.kbd.rxLatch) = some none := by decide
/-- R233: on a channel without an active PS/2 backend nothing is queued. -/
theorem test_no_enqueue_on_unserviced_channel :
    (stepped { standard with sched := [.op (.ps2Enqueue .kbd 0xAA)] }).map (·.kbd.txq) = some [] := by decide
/-- R244: a byte taken on the keyboard channel goes to its host command (0xF2 Identify). -/
theorem test_scheduled_take_reaches_host_command :
    (stepped { ps2Ready with kbd := { Channel.reset with rxLatch := some 0xF2 }, sched := [.op (.ps2Take .kbd)] }).map
      (fun t => (t.kbd.rxLatch, t.kbd.txq)) = some (none, [0xFA, 0xAB, 0x83]) := by decide
/-- R251: an overflow cuts a reply short. -/
theorem test_reply_cut_short :
    (after .kbdIdentify { ps2Ready with kbd := { Channel.reset with txq := List.replicate 15 1 } }).map
      (fun t => (t.kbd.txq.drop 15, t.kbd.txqOverflow)) = some ([0xFA], true) := by decide
/-- R318: a write that is not atomic can still be torn. -/
theorem test_write_not_atomic_opens_the_window :
    (after (.recWrite 0x13) { standard with cfg := { pRef with nvWriteAtomic := false } }).map (·.nvTorn) = some (some record09) := by
  decide
theorem test_txframe : (after (.ps2Txframe .kbd) { ps2Ready with kbd := { Channel.reset with txq := [0xE0, 0x6B] } }).map
    (fun t => (t.out.getLast?, t.kbd.txq)) = some (some (.wireFrame .kbd 0b10111000000#11), [0x6B]) := by decide

/-! ### Keyboard commands (L2.6) -/

theorem test_kbd_reset_does_not_flush : (after .kbdReset { ps2Ready with kbd := { Channel.reset with txq := [0xE0, 0x6B] } }).map
    (·.kbd.txq) = some [0xE0, 0x6B, 0xFA, 0xAA] := by decide
theorem test_kbd_resend : (after .kbdResend ps2Ready).map (·.kbd.txq) = some [] := by decide
theorem test_kbd_echo : (after .kbdEcho ps2Ready).map (·.kbd.txq) = some [0xEE] := by decide
theorem test_kbd_identify : (after .kbdIdentify ps2Ready).map (·.kbd.txq) = some [0xFA, 0xAB, 0x83] := by decide
theorem test_kbd_set_leds : (after .kbdSetLeds ps2Ready).map (fun t => (t.kbd.txq, t.kbdPend)) = some ([0xFA], some .ledParam) := by
  decide
theorem test_kbd_set_typematic : (after .kbdSetTypematic ps2Ready).map (fun t => (t.kbd.txq, t.kbdPend))
    = some ([0xFA], some .typematicParam) := by decide
theorem test_kbd_enable_scanning : (after .kbdEnableScanning ps2Ready).map (·.kbd.txq) = some [0xFA] := by decide
theorem test_kbd_disable : (after .kbdDisable ps2Ready).map (·.kbd.txq) = some [0xFA] := by decide
theorem test_kbd_default : (after .kbdDefault ps2Ready).map (·.kbd.txq) = some [0xFA] := by decide
theorem test_kbd_any_other : (after (.kbdAnyOther 0xF0) ps2Ready).map (·.kbd.txq) = some [0xFA] := by decide
theorem test_kbd_parameter : (after (.kbdParameterByte 0x02) { ps2Ready with kbdPend := some .ledParam }).map
    (fun t => (t.kbd.txq, t.kbdPend)) = some ([0xFA], none) := by decide
theorem test_hostbyte_parameter_is_no_reset : (after .kbdHostbyte { ps2Ready with
    kbdPend := some .ledParam, kbd := { Channel.reset with rxLatch := some 0xFF } }).map (fun t => (t.kbd.txq, t.kbd.rxLatch))
    = some ([0xFA], none) := by decide
theorem test_keyseq_cut_short : (after (.kbdKeyseq 0x50 false) { ps2Ready with kbd := { Channel.reset with
    txq := List.replicate 14 1 } }).map (fun t => (t.kbd.txq.drop 14, t.kbd.txqOverflow)) = some ([0xE0, 0xF0], true) := by decide

/-! ### The record (L2.7) -/

theorem test_rec_read : (after .recRead standard).map (·.result) = some (.outputs (some 0x09)) := by decide
theorem test_rec_read_wrong_magic : (after .recRead { standard with nv := ⟨0, 9, 0, 0, 0, 0, 0x1A, 0xDC⟩ }).map (·.result)
    = some (.outputs none) := by decide
theorem test_rec_write : (after (.recWrite 0x09) State.reset).map (·.nv) = some record09 := by decide
theorem test_rec_update : (after (.recUpdate 0x07 0x03 false) standard).map (·.nv) = some record0B := by decide
theorem test_rec_update_forced : (after (.recUpdate 0x07 0x03 true) standard).map (·.nv)
    = some ⟨0x33, 0x03, 0, 0, 0, 0, 0xD8, 0x41⟩ := by decide
theorem test_rec_init_erased : (after .recInit State.reset).map (fun t => (t.nv, t.result)) = some (record09, .byte 0x09) := by decide

/-! ### Steps -/

theorem test_boot_from_reset : (stepped State.reset).map (fun t => (t.nv, t.env.kbdKind, t.env.mouseKind, t.loop))
    = some (record09, .usbBootKeyboard, .usbMouseAbsolute, .periodic) := by decide
theorem test_step_runs_placed_request : (stepped (State.reset.withFetchWord 64 0x3301000000001838)).map (fun t => (t.lastResp.b1, t.loop))
    = some (0x80, .emit) := by decide
theorem test_step_runs_placed_host_byte : (stepped (State.reset.withFetchWord 8 0xF2)).map (·.kbd.txq)
    = some [0xFA, 0xAB, 0x83] := by decide
theorem test_restart_keeps_record : (stepped { standard with resetRequired := true, sched := [.restart 0] }).map
    (fun t => (t.nv, t.resetRequired, t.loop)) = some (record09, false, .boot) := by decide

/-! ### Witnesses: states that meet the hypotheses of the statements -/

theorem witness_serial_receive : ∃ s t : State, s.cfg.transport = .serial ∧ s.rxIdx < 8 ∧ t.cfg.transport = .serial ∧ 8 ≤ t.rxIdx :=
  ⟨{ standard with rxIdx := 7 }, { standard with rxIdx := 8 }, by decide⟩

theorem witness_TakeLatchesTheRequest : ∃ s : State, s.rxIdx = 8 ∧ s.disp = .idle := ⟨{ standard with rxIdx := 8 }, by decide⟩

theorem witness_TimeoutDiscardsThePartialRequest : ∃ s : State, s.cfg.transport = .serial ∧ 0 < s.rxIdx ∧ s.rxIdx < 8 ∧
    s.disp = .idle ∧ s.env.timeoutElapsed = true :=
  ⟨{ standard with rxIdx := 7, env := { standard.env with timeoutElapsed := true } }, by decide⟩

theorem witness_SingleBitErrorsAreDetected : ∃ (s t : State) (h : Six) (f : Frame),
    nextOf (exec (.crc16Append h) s) = some t ∧ t.result = .frame f :=
  ⟨standard, _, ⟨0x33, 1, 0, 0, 0, 0⟩, ⟨0x33, 1, 0, 0, 0, 0, 0x18, 0x38⟩, rfl, by decide⟩

theorem witness_SpacesAreEightCells : 8 < 7 + [0#8, 0#8].length ∧ 7 + [0#8].length ≤ 8 := by decide

theorem witness_StepsNotEnabledChangeNothing : ∃ s t : State, ¬(s.rxIdx = 8 ∧ s.disp = .idle) ∧ s.disp ≠ .dispatching ∧
    s.disp ≠ .responding ∧ s.cfg.transport = .serial ∧ s.kbd.rxLatch = none ∧ s.mouse.txq = [] ∧ s.serviced .kbd = false ∧
    t.cfg.transport = .spi ∧ t.kbd.txFsm ≠ .txIdle :=
  ⟨standard, { spiReady with kbd := { Channel.reset with txFsm := .txSlot 3 .low } }, by decide⟩

theorem witness_EncodedRowsDecodeToThemselves : pRef.WF ∧ Instr.wf pRef (.kbdAnyOther 0xF0) = true ∧
    Instr.source? pRef (.kbdAnyOther 0xF0) = some (.keyboard false) ∧ encode pRef (.kbdAnyOther 0xF0) = some [0xF0#8] :=
  ⟨pRef_wf, by decide, by decide, by decide⟩

theorem witness_DecodingIsTotalAndLossless : [0x33#8, 1#8, 0#8, 0#8, 0#8, 0#8, 0x18#8, 0x38#8].length = 8 ∧
    (decode pRef (.keyboard true) [0#8]).toOption = some (.kbdParameterByte 0) := by decide

theorem witness_StepRunsTheRequest : ∃ (s : State) (f : Frame) (i : Instr), s.nextEvent = .main ∧ s.loop = .dispatch ∧
    s.disp = .dispatching ∧ s.req = some (decodeRequest s.cfg f) ∧ decode s.cfg .request f.toList = .ok i :=
  ⟨standard.placeRequest record09, record09, _, rfl, rfl, rfl, rfl, rfl⟩

theorem witness_StepRunsTheHostByte : ∃ (s : State) (b : Byte) (i : Instr), s.nextEvent = .main ∧ s.loop = .ps2Kbd ∧
    s.serviced .kbd = true ∧ s.kbd.rxLatch = some b ∧ decode s.cfg (.keyboard s.kbdPend.isSome) [b] = .ok i :=
  ⟨standard.placeHostByte 0xF2, 0xF2, _, rfl, rfl, rfl, rfl, rfl⟩

theorem witness_StepRunsTheScheduledOperation : ∃ s t u v w x y : State,
    (s.sched = [.op .recRead] ∧ s.loop ≠ .boot) ∧
    (t.sched = [.op (.frameRxbyte 1)] ∧ t.loop = .boot) ∧
    (u.sched = [.op .recRead] ∧ u.loop = .boot) ∧
    v.sched = [.op .recInit] ∧
    (w.sched = [.op (.ps2Take .kbd)] ∧ w.loop ≠ .boot ∧ w.serviced .kbd = true) ∧
    (x.sched = [.op (.ps2Enqueue .kbd 0xAA)] ∧ x.loop ≠ .boot ∧ x.serviced .kbd = false) ∧
    y.sched = [.env (.pulls .kbd ⟨true, false⟩)] :=
  ⟨{ standard with sched := [.op .recRead] }, { State.reset with sched := [.op (.frameRxbyte 1)] },
    { State.reset with sched := [.op .recRead] }, { standard with sched := [.op .recInit] },
    { ps2Ready with sched := [.op (.ps2Take .kbd)] }, { standard with sched := [.op (.ps2Enqueue .kbd 0xAA)] },
    { standard with sched := [.env (.pulls .kbd ⟨true, false⟩)] }, by decide⟩

theorem witness_MainLoopTakesItsPlacesInOrder : ∀ l : LoopPos, ∃ s t : State, s.nextEvent = .main ∧ s.loop = l ∧
    s.serviced .kbd = true ∧ s.serviced .mouse = true ∧
    t.nextEvent = .main ∧ t.loop = l ∧ t.serviced .kbd = false ∧ t.serviced .mouse = false :=
  fun l => ⟨{ ps2Ready with loop := l }, { standard with loop := l }, rfl, rfl, rfl, rfl, rfl, rfl, rfl, rfl⟩

theorem witness_DispatchRunsTheDecodedRow : ∃ (s : State) (f : Frame), s.disp = .dispatching ∧ s.req = some (decodeRequest s.cfg f) :=
  ⟨standard.placeRequest record09, record09, rfl, rfl⟩

theorem witness_ErrorOutcomesOnlyAnswer : ∃ s t : State, s.cfg.WF ∧ s.disp = .dispatching ∧ s.req = some .crcErr ∧
    t.cfg.WF ∧ t.disp = .dispatching ∧ t.req = some .timeout :=
  ⟨{ standard with disp := .dispatching, req := some .crcErr }, { standard with disp := .dispatching, req := some .timeout },
    pRef_wf, rfl, rfl, pRef_wf, rfl, rfl⟩

/-- A request let through under either policy; the commands that answer OK or `INVALID_ERROR`. -/
theorem witness_accepted_requests : ∃ (s t : State) (m : Byte), s.cfg.WF ∧ s.accepts m ∧ s.cfg.magicPolicy = .ignore ∧
    t.cfg.WF ∧ t.accepts m ∧ t.cfg.magicPolicy = .invalid :=
  ⟨standard, { standard with cfg := { pRef with magicPolicy := .invalid } }, 0x33, pRef_wf, .inl rfl, rfl, pRef_wf, .inr rfl, rfl⟩

theorem witness_SetBackendUpdatesTheRecord : ∃ s t u : State, s.cfg.WF ∧ s.accepts 0 ∧ s.recordValid ∧
    s.cfg.dynamicSupported = true ∧ t.cfg.WF ∧ t.accepts 0 ∧ ¬t.recordValid ∧ t.cfg.dynamicSupported = true ∧
    u.cfg.WF ∧ u.accepts 0 ∧ u.cfg.dynamicSupported = false :=
  ⟨standard, State.reset, { standard with cfg := { pRef with dynamicSupported := false } },
    pRef_wf, .inl rfl, by decide, rfl, pRef_wf, .inl rfl, by decide, rfl, pRef_wf, .inl rfl, rfl⟩

theorem witness_SetUsbConnectedCallsTheBoard : ∃ s t : State, s.cfg.WF ∧ s.accepts 0 ∧ s.cfg.vbusConnectable = true ∧
    t.cfg.WF ∧ t.accepts 0 ∧ t.cfg.vbusConnectable = false :=
  ⟨{ standard with cfg := { pRef with vbusConnectable := true } }, standard, pRef_wf, .inl rfl, rfl, pRef_wf, .inl rfl, rfl⟩

theorem witness_KeyboardCommandsCallTheirDrivers : ∃ s t : State, s.cfg.WF ∧ s.accepts 0 ∧ s.env.kbdKind ≠ .ps2Keyboard ∧
    t.cfg.WF ∧ t.accepts 0 ∧ t.env.kbdKind = .ps2Keyboard :=
  ⟨standard, ps2Ready, pRef_wf, .inl rfl, by decide, pRef_wf, .inl rfl, rfl⟩

theorem witness_WrongMagicIsTurnedAway : ∃ (s : State) (f : Frame), s.cfg.WF ∧ s.cfg.magicPolicy = .invalid ∧
    crcCheck f = true ∧ f.b0 ≠ s.cfg.requestMagic :=
  ⟨{ standard with cfg := { pRef with magicPolicy := .invalid } }, ⟨0, 1, 0, 0, 0, 0, 0xDB, 0x3D⟩, pRef_wf, rfl, by decide, by decide⟩

theorem witness_PayloadBeyondTheArityIsIgnored : ∃ (s : State) (f g : Frame), s.cfg.WF ∧ crcCheck f = true ∧ crcCheck g = true ∧
    f.b0 = g.b0 ∧ f.b1 = g.b1 ∧ (∀ k, k < arityOf s.cfg f.b1 → f.get (k + 2) = g.get (k + 2)) ∧ f ≠ g :=
  ⟨standard, ⟨0x33, 0x11, 4, 1, 0, 0, 0x2B, 0xA9⟩, ⟨0x33, 0x11, 4, 1, 0xAA, 0x55, 0xB4, 0x17⟩, pRef_wf, by decide, by decide,
    rfl, rfl, by decide, by decide⟩

theorem witness_EmitSendsTheCache : ∃ s t : State, (s.disp = .responding ∧ s.cfg.transport = .serial ∧ s.lastValid = true) ∧
    (t.disp = .responding ∧ t.cfg.transport = .spi ∧ t.spiOut.b0 = 0 ∧ t.lastValid = false) :=
  ⟨{ standard with disp := .responding, lastValid := true }, { spiReady with disp := .responding }, by decide⟩

theorem witness_EmitWithoutCacheOrWithBusySpi : ∃ s t u : State,
    (s.disp = .responding ∧ s.cfg.transport = .serial ∧ s.lastValid = false) ∧
    (t.disp = .responding ∧ t.cfg.transport = .spi ∧ t.spiOut.b0 ≠ 0) ∧
    (u.disp = .responding ∧ u.cfg.transport = .spi ∧ u.spiOut.b0 = 0 ∧ u.lastValid = true) :=
  ⟨{ standard with disp := .responding }, { spiReady with disp := .responding, spiOut := okResponse },
    { spiReady with disp := .responding, lastValid := true }, by decide⟩

theorem witness_SpiExchangesOneByte : ∃ s t u v : State,
    (s.cfg.transport = .spi ∧ s.spiOut.b0 ≠ 0 ∧ s.spiOidx ≠ 7) ∧ (t.cfg.transport = .spi ∧ t.spiOut.b0 ≠ 0 ∧ t.spiOidx = 7) ∧
    (u.cfg.transport = .spi ∧ u.spiOut.b0 = 0 ∧ u.rxIdx < 8 ∧ u.rxIdx ≠ 0) ∧
    (v.cfg.transport = .spi ∧ v.spiOut.b0 = 0 ∧ 8 ≤ v.rxIdx) :=
  ⟨{ spiReady with spiOut := okResponse, spiOidx := 6 }, { spiReady with spiOut := okResponse, spiOidx := 7 },
    { spiReady with rxIdx := 7 }, { spiReady with rxIdx := 8 }, by decide⟩

theorem witness_EightExchangesDeliverTheResponse : ∃ (s : State) (ins : List Byte), s.cfg.transport = .spi ∧ s.spiOut.b0 ≠ 0 ∧
    s.spiOidx = 0 ∧ ins.length = 8 :=
  ⟨{ spiReady with spiOut := okResponse }, List.replicate 8 0x33, by decide⟩

theorem witness_OneResponsePerRequest : ∃ s : State, s.cfg.WF ∧ s.cfg.transport = .serial ∧ s.rxIdx = 0 ∧ s.disp = .idle ∧
    s.lastValid = true ∧ crcCheck s.lastResp = true :=
  ⟨{ standard with lastValid := true, lastResp := okResponse }, pRef_wf, by decide⟩

theorem witness_SampleStaysOnItsChannel : ps2Ready.serviced .kbd = true ∧ ps2Ready.serviced .mouse = true := by decide

/-- A falling edge in each receive state at the ends of its range. -/
theorem witness_ReceiverTakesOneSlotPerEdge : ∀ r ∈ [RxFsm.idle, .startBit, .dataBits 0, .dataBits 6, .dataBits 7, .parity, .stopBit],
    ∃ s : State, s.serviced .kbd = true ∧ s.kbd.txFsm = .txIdle ∧ s.kbd.rxFsm = r ∧ s.kbd.clkPrev = true ∧ s.clkLine .kbd = false :=
  fun r _ => ⟨{ ps2Ready with kbd := { Channel.reset with rxFsm := r }, env := { ps2Ready.env with kbdPulls := ⟨true, true⟩ } },
    rfl, rfl, rfl, rfl, rfl⟩

/-- Each transmit state at the ends of its range, without and with a collision. -/
theorem witness_TransmitterDrivesOneSlotInTwoPhases : ∀ x ∈ [TxFsm.txIdle, .txSlot 0 .setup, .txSlot 10 .setup, .txSlot 0 .low,
    .txSlot 9 .low, .txSlot 10 .low], ∃ s t : State, s.serviced .kbd = true ∧ s.kbd.txFsm = x ∧ s.clkLine .kbd = true ∧
    s.datLine .kbd = true ∧ s.kbd.txq = [1] ∧ t.serviced .kbd = true ∧ t.kbd.txFsm = x ∧ t.kbd.clkPull = false ∧
    t.clkLine .kbd = false :=
  fun x _ => ⟨{ ps2Ready with kbd := { Channel.reset with txFsm := x, txq := [1] } },
    { ps2Ready with kbd := { Channel.reset with txFsm := x }, env := { ps2Ready.env with kbdPulls := ⟨true, false⟩ } },
    rfl, rfl, rfl, rfl, rfl, rfl, rfl, rfl, rfl⟩

theorem reset_quiet : Channel.reset.Quiet := ⟨rfl, rfl, rfl, rfl, rfl⟩

theorem witness_TargetFrameArrivesAsItsByte : ∃ (s : State) (b : Byte), s.serviced .kbd = true ∧ (s.chan .kbd).Quiet ∧
    (wire b).getLsbD 0 = false ∧ s.sched = targetSends .kbd (wire b) ∧ (s.chan .kbd).rxLatch = none :=
  ⟨{ ps2Ready with sched := targetSends .kbd (wire 0xF2) }, 0xF2, by decide, reset_quiet, by decide, rfl, by decide⟩

theorem witness_QueuedByteLeavesAsItsFrame : ∃ s : State, s.serviced .kbd = true ∧ (s.chan .kbd).Quiet ∧
    (s.chan .kbd).txq = 0xFA :: [0xAA] ∧ s.targetQuiet .kbd :=
  ⟨{ ps2Ready with kbd := { Channel.reset with txq := [0xFA, 0xAA] } }, by decide, ⟨rfl, rfl, rfl, rfl, rfl⟩, rfl, rfl⟩

theorem witness_TakeAndEnqueue : ∃ s t : State, (s.chan .kbd).rxLatch = some 0xF2 ∧ (s.chan .kbd).txq.length < s.cfg.ps2TxqDepth ∧
    t.cfg.ps2TxqDepth ≤ (t.chan .kbd).txq.length :=
  ⟨{ ps2Ready with kbd := { Channel.reset with rxLatch := some 0xF2, txq := List.replicate 15 1 } },
    { ps2Ready with kbd := { Channel.reset with txq := List.replicate 16 1 } }, by decide⟩

theorem witness_ByteLevelFrames : ∃ s t : State, s.serviced .kbd = true ∧ s.kbd.rxFsm = .idle ∧ s.kbd.txFsm = .txIdle ∧
    t.kbd.rxFsm = .idle ∧ t.kbd.txFsm = .txIdle ∧ (s.chan .kbd).rxLatch = none ∧ (s.chan .kbd).txq = [0xE0] ∧
    t.serviced .kbd = true ∧ (t.chan .kbd).rxLatch ≠ none ∧ (0b11111100100#11).getLsbD 0 = false ∧
    (0b11111100100#11) ≠ wire (wireData 0b11111100100#11) ∧ (0b11000000001#11).getLsbD 0 = true :=
  ⟨{ ps2Ready with kbd := { Channel.reset with txq := [0xE0] } },
    { ps2Ready with kbd := { Channel.reset with rxLatch := some 1 } }, by decide⟩

/-- A queue with room for three bytes, one with room for one, and a full one, each within its bound. -/
theorem witness_rooms : ∃ s t u : State, s.room .kbd 3 ∧ s.room .kbd 1 ∧ s.kbd.txq.length ≤ s.cfg.ps2TxqDepth ∧
    s.cfg.ps2AckParam = true ∧ t.room .kbd 1 ∧ ¬t.room .kbd 2 ∧ t.kbd.txq.length ≤ t.cfg.ps2TxqDepth ∧
    u.kbd.txq.length = u.cfg.ps2TxqDepth :=
  ⟨{ ps2Ready with kbd := { Channel.reset with txq := List.replicate 13 1 } },
    { ps2Ready with kbd := { Channel.reset with txq := List.replicate 15 1 } },
    { ps2Ready with kbd := { Channel.reset with txq := List.replicate 16 1 } }, by unfold State.room; decide⟩

theorem witness_TwoByteHostCommands_no_ack : ∃ s : State, s.kbd.txq.length ≤ s.cfg.ps2TxqDepth ∧ s.cfg.ps2AckParam = false :=
  ⟨{ ps2Ready with cfg := { pRef with ps2AckParam := false } }, by decide⟩

theorem witness_HostByteRunsTheDecodedRow : ∃ s : State, s.kbd.rxLatch = some 0xF2 :=
  ⟨{ ps2Ready with kbd := { Channel.reset with rxLatch := some 0xF2 } }, rfl⟩

theorem witness_KeySequences : ∃ s : State, s.room .kbd 3 ∧
    (0x50 ∉ s.cfg.ps2Special ∧ s.cfg.ps2Scancode.lookup 0x50 = some 0x6B ∧ 0x50 ∈ s.cfg.ps2Extended) ∧
    (0x04 ∉ s.cfg.ps2Special ∧ s.cfg.ps2Scancode.lookup 0x04 = some 0x1C ∧ 0x04 ∉ s.cfg.ps2Extended) ∧
    (0x46 ∈ s.cfg.ps2Special ∧ s.cfg.ps2SpecialSeq.lookup (0x46, true) = some [1]) ∧
    (0x00 ∉ s.cfg.ps2Special ∧ s.cfg.ps2Scancode.lookup 0x00 = none) :=
  ⟨{ ps2Ready with cfg := { pRef with
      ps2Scancode := [(0x50, 0x6B), (0x04, 0x1C)], ps2Special := [0x46], ps2SpecialSeq := [((0x46, true), [1])] } },
    by unfold State.room; decide⟩

theorem witness_LeftArrowSequences : ∃ s : State, s.cfg.WF ∧ s.room .kbd 3 ∧ s.env.kbdKind = .ps2Keyboard ∧ s.accepts 0x33 :=
  ⟨ps2Ready, pRef_wf, by unfold State.room; decide, rfl, .inl rfl⟩

theorem witness_records : ∃ s t : State, s.cfg.WF ∧ s.recordValid ∧ ¬t.recordValid :=
  ⟨standard, State.reset, pRef_wf, by decide, by decide⟩

theorem witness_CorruptRecordRecovers : ∃ s t u : State, (s.nv.b0 ≠ s.cfg.storageMagic) ∧
    (¬t.recordValid ∧ t.nextEvent = .main ∧ t.loop = .boot) ∧ (u.recordValid ∧ u.nextEvent = .main ∧ u.loop = .boot) :=
  ⟨{ standard with nv := ⟨0, 9, 0, 0, 0, 0, 0x1A, 0xDC⟩ }, State.reset, { State.reset with nv := record09 }, by decide⟩

theorem witness_BootInstantiatesTheDrivers : ∃ (s u : State) (v : Byte), s.nextEvent = .main ∧ s.loop = .boot ∧
    exec .recInit { s with sched := s.sched.tail, nvTorn := none } = .next u ∧ u.result = .byte v :=
  ⟨State.reset, _, _, rfl, rfl, rfl, rfl⟩

/-- A boot whose record selects PS/2 on both channels. -/
theorem witness_BootInstantiatesTheDrivers_ps2 : ∃ (s u : State) (v : Byte), s.nextEvent = .main ∧ s.loop = .boot ∧
    exec .recInit { s with sched := s.sched.tail, nvTorn := none } = .next u ∧ u.result = .byte v ∧ s.cfg.WF ∧
    s.cfg.hasPs2 = true ∧ v &&& s.cfg.bkKbdMask = s.cfg.kbdPs2 ∧ v &&& s.cfg.bkMouseMask = s.cfg.mousePs2 :=
  ⟨{ State.reset with nv := crcAppend ⟨0x33, 0x1B, 0, 0, 0, 0⟩ }, _, 0x1B, rfl, rfl, rfl, by decide, pRef_wf, by decide⟩

theorem witness_RestartKeepsOnlyTheRecord : ∃ s t : State, (s.nextEvent = .restart 0xFF ∧ s.nvTorn = none) ∧
    (t.nextEvent = .restart 0x0F ∧ t.nvTorn = some record09) :=
  ⟨{ standard with sched := [.restart 0xFF] }, { standard with sched := [.restart 0x0F], nvTorn := some record09 }, by decide⟩

theorem witness_EveryStepKeepsTheInvariant : Inv ps2Ready ∧ ∃ t, step ps2Ready = .next t :=
  ⟨{ cfg := pRef_wf, rxIdx := by decide, latch := by decide, noSpiTimeout := (fun h => nomatch h), cache := (fun h => nomatch h),
     resetRequired := (fun h => nomatch h), torn := (fun _ => rfl), kbd := ⟨by decide, rfl, rfl⟩, mouse := ⟨by decide, rfl, rfl⟩,
     kbdIdle := (fun _ => ⟨rfl, rfl, rfl, rfl, rfl, rfl⟩), mouseIdle := (fun _ => ⟨rfl, rfl, rfl, rfl, rfl, rfl⟩), noDriver := (fun h => nomatch h) }, _, rfl⟩

theorem witness_InterruptStepsStayInTheirBuffers : ∃ t u v w x, exec (.frameRxbyte 1) standard = .next t ∧
    exec (.spiExchange 1) spiReady = .next u ∧ exec (.ps2Sample .kbd) ps2Ready = .next v ∧
    exec (.ps2Rxframe .kbd (wire 1)) ps2Ready = .next w ∧ exec (.ps2Txframe .kbd) ps2Ready = .next x :=
  ⟨_, _, _, _, _, rfl, rfl, rfl, rfl, rfl⟩

theorem witness_OnlyARestartChangesTheDrivers : ∃ s t : State, step s = .next t ∧ (∀ landed, s.nextEvent ≠ .restart landed) ∧
    s.resetRequired = true ∧ s.loop ≠ .boot :=
  ⟨{ standard with resetRequired := true }, _, rfl, (fun _ h => nomatch h), rfl, (fun h => nomatch h)⟩

end Sys2Proof.Tests
end

section
/-! The schedule's operations and environment changes: the classification of the rows in the words of the rules, what one step
does with each kind of entry, and the statement about both. -/

namespace Sys2Proof.Machine

/-! ### The kinds of rows, as lists of forms -/

/-- The operations of `RXISR` and `PS2PHY[ch]` (R340, R350). -/
def IsInterruptRow (i : Instr) : Prop :=
  (∃ b, i = .frameRxbyte b) ∨ (∃ b, i = .spiExchange b) ∨ (∃ ch, i = .ps2Sample ch) ∨
    (∃ ch w, i = .ps2Rxframe ch w) ∨ ∃ ch, i = .ps2Txframe ch

/-- The rows that an agent takes as a step of its own (R6, R108). -/
def IsOwnStep (i : Instr) : Prop :=
  IsInterruptRow i ∨ i = .crc16Init ∨ i = .crc16Bit ∨ (∃ b, i = .crc16Byte b) ∨ (∃ d, i = .crc16Block d) ∨
    (∃ f, i = .crc16Check f) ∨ (∃ h, i = .crc16Append h) ∨ i = .frameTake ∨ i = .frameTimeout ∨ (∃ f, i = .frameDecode f) ∨
    i = .dispatch ∨ (∃ x b c, i = .frameEncode x b c) ∨ i = .frameEmit ∨ (∃ ch, i = .ps2Take ch) ∨
    (∃ ch b, i = .ps2Enqueue ch b) ∨ i = .kbdHostbyte ∨ i = .recRead

/-- The rows that work for one PS/2 channel (R233). -/
def WorksOnChannel (i : Instr) (ch : Chan) : Prop :=
  i = .ps2Sample ch ∨ (∃ w, i = .ps2Rxframe ch w) ∨ i = .ps2Txframe ch ∨
    i = .ps2Take ch ∨ (∃ b, i = .ps2Enqueue ch b) ∨ (i = .kbdHostbyte ∧ ch = .kbd)

theorem contextOf_eq_interrupt_iff (i : Instr) : contextOf i = .interrupt ↔ IsInterruptRow i := by
  cases i <;> simp [contextOf, IsInterruptRow]

/-- `cases h` discards the rows that `isEvent` answers `false`. -/
theorem isOwnStep_of_isEvent {i : Instr} (h : isEvent i = true) : IsOwnStep i := by
  cases i <;> cases h <;> simp [IsOwnStep, IsInterruptRow]

theorem isEvent_of_isInterruptRow {i : Instr} (h : IsInterruptRow i) : isEvent i = true := by
  obtain ⟨_, rfl⟩ | ⟨_, rfl⟩ | ⟨_, rfl⟩ | ⟨_, _, rfl⟩ | ⟨_, rfl⟩ := h <;> rfl

theorem isEvent_of_isOwnStep {i : Instr} (h : IsOwnStep i) : isEvent i = true := by
  obtain h | rfl | rfl | ⟨_, rfl⟩ | ⟨_, rfl⟩ | ⟨_, rfl⟩ | ⟨_, rfl⟩ | rfl | rfl | ⟨_, rfl⟩ | rfl | ⟨_, _, _, rfl⟩ | rfl |
    ⟨_, rfl⟩ | ⟨_, _, rfl⟩ | rfl | rfl := h
  · exact isEvent_of_isInterruptRow h
  all_goals rfl

theorem isEvent_iff (i : Instr) : isEvent i = true ↔ IsOwnStep i := ⟨isOwnStep_of_isEvent, isEvent_of_isOwnStep⟩

theorem channelOf_eq_some_iff (i : Instr) (ch : Chan) : channelOf i = some ch ↔ WorksOnChannel i ch := by
  cases i <;> simp [channelOf, WorksOnChannel, eq_comm]

/-- Only the keyboard channel's taking is another operation than the scheduled row (R244). -/
theorem agentStep_of_ne {i : Instr} (h : i ≠ .ps2Take .kbd) : agentStep i = i := by
  unfold agentStep
  split
  · exact absurd rfl h
  · rfl

/-- R371 and R233 together. -/
theorem stepEnabled_iff (s : State) (i : Instr) : s.stepEnabled i = true ↔
    (s.loop ≠ .boot ∨ IsInterruptRow i) ∧ ∀ ch, WorksOnChannel i ch → s.serviced ch = true := by
  simp only [← contextOf_eq_interrupt_iff, ← channelOf_eq_some_iff, State.stepEnabled]
  cases channelOf i <;> simp

/-! ### One step at each kind of schedule entry -/

section
variable {s : State} {i : Instr} {es : List Event}

theorem step_of_op_enabled (h : s.sched = .op i :: es) (own : isEvent i = true) (en : s.stepEnabled i = true) :
    step s = exec (agentStep i) { s with sched := es, nvTorn := none } := by
  rw [step_of_op h own, if_pos en]

theorem step_of_op_disabled (h : s.sched = .op i :: es) (own : isEvent i = true) (dis : ¬s.stepEnabled i = true) :
    step s = .next { s with sched := es, nvTorn := none } := by
  rw [step_of_op h own, if_neg dis]

theorem step_of_op_notEvent (h : s.sched = .op i :: es) (other : ¬isEvent i = true) :
    step s = .refused .notAnEvent := by
  rw [step_of_sched_cons h, runEvent, if_neg other]

theorem step_of_env {c : EnvChange} (h : s.sched = .env c :: es) :
    step s = .next { s with sched := es, nvTorn := none, env := s.env.change c } := by
  rw [step_of_sched_cons h]
  rfl

end

/-- Settles O16: the rows are classified by `isEvent_iff` and `stepEnabled_iff`; each environment change is `step_of_env`. -/
theorem stepRunsTheScheduledOperation : Obligations.StepRunsTheScheduledOperation := by
  intro s es
  refine ⟨fun i h => ?_, fun _ => step_of_env, fun _ => step_of_env, fun _ => step_of_env, fun _ => step_of_env,
    fun _ => step_of_env, fun _ => step_of_env, fun _ => step_of_env⟩
  refine ⟨fun own en ne => ?runs, fun en take => ?takes, fun own dis => ?stays, fun other => ?refused⟩
  case runs =>
    rw [step_of_op_enabled h ((isEvent_iff i).mpr own) ((stepEnabled_iff s i).mpr en), agentStep_of_ne ne]
  case takes =>
    subst take
    exact step_of_op_enabled h rfl ((stepEnabled_iff s _).mpr en)
  case stays => exact step_of_op_disabled h ((isEvent_iff i).mpr own) (mt (stepEnabled_iff s i).mp dis)
  case refused => exact step_of_op_notEvent h (mt (isEvent_iff i).mp other)

end Sys2Proof.Machine
end

section
/-! The composed response read back: bytes 1 and 3 are unions of bit fields and byte 2 is a union of three masked values, and under
R9 no two of the masks share a bit. -/

namespace Sys2Proof.Machine

/-! ### Bytes made of disjoint fields -/

theorem and_and_eq_zero_of_disjoint {m n : Byte} (h : m &&& n = 0#8) (x : Byte) : x &&& m &&& n = 0#8 := by
  rw [BitVec.and_assoc, h, BitVec.and_zero]

theorem bitIf_and_self (c : Bool) (m : Byte) : bitIf c m &&& m = bitIf c m := by cases c <;> simp [bitIf]

theorem bitIf_and_disjoint {m n : Byte} (h : m &&& n = 0#8) (c : Bool) : bitIf c m &&& n = 0#8 := by
  cases c <;> simp [bitIf, h]

theorem bitIf_eq_mask_iff {m : Byte} (h : m ≠ 0#8) (c : Bool) : bitIf c m = m ↔ c = true := by
  cases c <;> simp [bitIf, h.symm]

/-- The union of bit fields, each a mask and the condition that shows it. -/
def fieldUnion (fs : List (Byte × Bool)) : Byte := fs.foldr (fun f acc => bitIf f.2 f.1 ||| acc) 0#8

theorem fieldUnion_cons (m : Byte) (c : Bool) (fs : List (Byte × Bool)) :
    fieldUnion ((m, c) :: fs) = bitIf c m ||| fieldUnion fs := rfl

/-- Fields whose masks avoid `n` show nothing under `n`. -/
theorem fieldUnion_and_disjoint {n : Byte} {fs : List (Byte × Bool)} (h : ∀ f ∈ fs, f.1 &&& n = 0#8) :
    fieldUnion fs &&& n = 0#8 := by
  induction fs with
  | nil => simp [fieldUnion]
  | cons f fs ih =>
    obtain ⟨hf, hfs⟩ := List.forall_mem_cons.mp h
    rw [fieldUnion_cons, BitVec.and_or_distrib_right, bitIf_and_disjoint hf, ih hfs, BitVec.or_zero]

/-- Under its own mask a union of disjoint fields shows that field alone. -/
theorem fieldUnion_and_mask {fs : List (Byte × Bool)} (dis : disjoint (fs.map Prod.fst)) {m : Byte} {c : Bool}
    (mem : (m, c) ∈ fs) : fieldUnion fs &&& m = bitIf c m := by
  induction fs with
  | nil => cases mem
  | cons f fs ih =>
    obtain ⟨away, dis⟩ := List.pairwise_cons.mp dis
    rw [fieldUnion_cons, BitVec.and_or_distrib_right]
    cases mem with
    | head =>
      have rest : ∀ g ∈ fs, g.1 &&& m = 0#8 := fun g hg => by
        rw [BitVec.and_comm]
        exact away g.1 (List.mem_map_of_mem hg)
      rw [bitIf_and_self, fieldUnion_and_disjoint rest, BitVec.or_zero]
    | tail _ mem =>
      rw [bitIf_and_disjoint (away m (List.mem_map_of_mem mem)), ih dis mem, BitVec.zero_or]

/-- A field's mask is shown whole exactly when its condition holds. -/
theorem fieldUnion_shows {fs : List (Byte × Bool)} (dis : disjoint (fs.map Prod.fst)) {m : Byte} {c : Bool}
    (mem : (m, c) ∈ fs) (ne : m ≠ 0#8) : fieldUnion fs &&& m = m ↔ c = true := by
  rw [fieldUnion_and_mask dis mem, bitIf_eq_mask_iff ne]

/-! ### The three bytes of the response as fields (R212 to R214) -/

/-- The seven fields of an OK status, in the order of R8. -/
def statusFields (s : State) : List (Byte × Bool) :=
  [(s.cfg.stOk, true), (s.cfg.stResetRequired, s.resetRequired),
    (s.cfg.stKbdOffline, s.env.kbdKind != .dummy && s.env.kbdOffline),
    (s.cfg.stMouseOffline, s.env.mouseKind != .dummy && s.env.mouseOffline),
    (s.cfg.stLedCaps, s.env.kbdKind != .dummy && s.env.leds.caps),
    (s.cfg.stLedNum, s.env.kbdKind != .dummy && s.env.leds.num),
    (s.cfg.stLedScroll, s.env.kbdKind != .dummy && s.env.leds.scroll)]

/-- The five capability fields. -/
def capsFields (s : State) : List (Byte × Bool) :=
  [(s.cfg.capHasUsb, s.cfg.hasUsb), (s.cfg.capHasUsbCompat, s.cfg.hasUsbCompat), (s.cfg.capHasPs2, s.cfg.hasPs2),
    (s.cfg.capVbusConnectable, s.cfg.vbusConnectable),
    (s.cfg.capVbusConnected, s.cfg.vbusConnectable && s.env.vbusConnected)]

theorem statusByte_ok (s : State) : statusByte s s.cfg.stOk = fieldUnion (statusFields s) := by
  simp only [statusByte, if_true, statusFields, fieldUnion, List.foldr, BitVec.or_zero, bitIf]
  ac_rfl

theorem capsByte_eq (s : State) : capsByte s = fieldUnion (capsFields s) := by
  simp only [capsByte, capsFields, fieldUnion, List.foldr, BitVec.or_zero]
  ac_rfl

theorem statusFields_shows {s : State} (wf : s.cfg.WF) :
    ∀ f ∈ statusFields s, (statusByte s s.cfg.stOk &&& f.1 = f.1 ↔ f.2 = true) := by
  intro f mem
  obtain ⟨_, ⟨_, _, bits, dis⟩, _⟩ := wf
  rw [statusByte_ok]
  exact fieldUnion_shows (fs := statusFields s) dis mem (bits f.1 (List.mem_map_of_mem (f := Prod.fst) mem)).1

theorem capsFields_shows {s : State} (wf : s.cfg.WF) :
    ∀ f ∈ capsFields s, (capsByte s &&& f.1 = f.1 ↔ f.2 = true) := by
  intro f mem
  obtain ⟨_, _, _, ⟨bits, dis⟩, _⟩ := wf
  rw [capsByte_eq]
  exact fieldUnion_shows (fs := capsFields s) dis mem (bits f.1 (List.mem_map_of_mem (f := Prod.fst) mem)).1

/-- An error code has the `ST_OK` bit clear (R9 item 3). -/
theorem errorCode_and_stOk {p : Params} (wf : p.WF) {e : Byte} (mem : e ∈ p.errorCodes) : e &&& p.stOk = 0#8 := by
  obtain ⟨_, ⟨_, codes, _⟩, _⟩ := wf
  exact (codes e mem).2

theorem backendMasks_disjoint {p : Params} (wf : p.WF) :
    p.bkKbdMask &&& p.bkMouseMask = 0#8 ∧ p.bkKbdMask &&& p.bkDynamic = 0#8 ∧ p.bkMouseMask &&& p.bkDynamic = 0#8 := by
  obtain ⟨_, _, ⟨dis, _⟩, _⟩ := wf
  simpa [disjoint, and_assoc] using dis

theorem backendByte_and_kbdMask {s : State} (wf : s.cfg.WF) :
    backendByte s &&& s.cfg.bkKbdMask = s.env.kbdBackend &&& s.cfg.bkKbdMask := by
  obtain ⟨km, kd, -⟩ := backendMasks_disjoint wf
  rw [BitVec.and_comm] at km kd
  simp [backendByte, BitVec.and_or_distrib_right, and_and_eq_zero_of_disjoint km, bitIf_and_disjoint kd, BitVec.and_assoc]

theorem backendByte_and_mouseMask {s : State} (wf : s.cfg.WF) :
    backendByte s &&& s.cfg.bkMouseMask = s.env.mouseBackend &&& s.cfg.bkMouseMask := by
  obtain ⟨km, -, md⟩ := backendMasks_disjoint wf
  rw [BitVec.and_comm] at md
  simp [backendByte, BitVec.and_or_distrib_right, and_and_eq_zero_of_disjoint km, bitIf_and_disjoint md, BitVec.and_assoc]

theorem backendByte_and_dynamic {s : State} (wf : s.cfg.WF) :
    backendByte s &&& s.cfg.bkDynamic = bitIf s.cfg.dynamicSupported s.cfg.bkDynamic := by
  obtain ⟨-, kd, md⟩ := backendMasks_disjoint wf
  simp [backendByte, BitVec.and_or_distrib_right, and_and_eq_zero_of_disjoint kd, and_and_eq_zero_of_disjoint md,
    bitIf_and_self]

/-! ### Reading a composed response back -/

/-- Composing any status but 0 (R218). -/
theorem exec_respCompose (s : State) {st : Byte} (h : st ≠ 0#8) : exec (.respCompose st) s = .next (s.compose st) :=
  congrArg Host.Outcome.next (respond_compose s h)

/-- Settles O35: each field by `statusFields_shows`, the error codes by R9 items 3 and 4. -/
theorem statusFieldsReadBack : Obligations.StatusFieldsReadBack := by
  intro s wf
  refine ⟨⟨_, exec_respCompose s (stOk_ne_zero wf), ?fields⟩, fun st code => ?bare⟩
  case fields => simpa [statusFields, responseSix] using statusFields_shows wf
  case bare =>
    obtain ⟨ne, neOk⟩ := errorCode_ok wf code
    exact ⟨_, exec_respCompose s ne, statusByte_error s neOk, errorCode_and_stOk wf code⟩

/-- Settles O36: the two selections and the flag lie under disjoint masks, the capabilities are disjoint bits. -/
theorem backendAndCapsReadBack : Obligations.BackendAndCapsReadBack := by
  intro s st wf ne
  refine ⟨_, exec_respCompose s ne, backendByte_and_kbdMask wf, backendByte_and_mouseMask wf,
    backendByte_and_dynamic wf, ?_⟩
  simpa [capsFields, responseSix] using capsFields_shows wf

end Sys2Proof.Machine
end

section
/-! The machine's invariant: it holds after reset, and every step keeps it.  Each shared operation, each operation of a channel and
each agent's step has one lemma that says it keeps the invariant; a step is then one case per event. -/

namespace Sys2Proof.Machine

/-! ### Reset (R40) -/

/-- Settles O56: both channels hold `Channel.reset`, and every value is read off. -/
theorem resetValues : Obligations.ResetValues := by
  refine ⟨rfl, rfl, rfl, rfl, rfl, rfl, rfl, rfl, rfl, fun ch => ?_⟩
  have h : State.reset.chan ch = Channel.reset := by cases ch <;> rfl
  rw [h]
  exact ⟨rfl, rfl, rfl, rfl, rfl, rfl, rfl, rfl, rfl, rfl, rfl⟩

theorem Channel.reset_coherent (d : Nat) : Channel.reset.Coherent d := ⟨Nat.zero_le d, rfl, rfl⟩

theorem Channel.reset_untouched : Channel.reset.Untouched := ⟨rfl, rfl, rfl, rfl, rfl, rfl⟩

/-- The reset state meets the invariant on every well-formed build and every storage content. -/
theorem inv_resetWith {p : Params} (wf : p.WF) (nv : Frame) : Inv (State.resetWith p nv) where
  cfg := wf
  rxIdx := Nat.zero_le 8
  latch := by simp [State.resetWith]
  noSpiTimeout := fun _ => by simp [State.resetWith]
  cache := fun filled => nomatch filled
  resetRequired := fun set => nomatch set
  torn := fun _ => rfl
  kbd := Channel.reset_coherent _
  mouse := Channel.reset_coherent _
  kbdIdle := fun _ => Channel.reset_untouched
  mouseIdle := fun _ => Channel.reset_untouched
  noDriver := fun _ => ⟨rfl, rfl⟩

/-- `P_REF` satisfies each item of R9, by evaluation (93_implementation_defined.md section 2); stated here so that the development
does not lean on the tests. -/
theorem pRef_wellFormed : pRef.WF :=
  ⟨by decide, by decide, by decide, by decide, by decide, by decide, by decide⟩

/-- Settles O57: the reset state of a well-formed build, here `P_REF`. -/
theorem resetMeetsTheInvariant : Obligations.ResetMeetsTheInvariant := inv_resetWith pRef_wellFormed erasedFrame

/-! ### What a channel's operations keep -/

section
variable {d : Nat} {c : Channel}

theorem Channel.coherent_idle_iff (idle : c.txFsm = .txIdle) :
    c.Coherent d ↔ c.txq.length ≤ d ∧ c.clkPull = false ∧ c.datPull = false := by
  simp [Channel.Coherent, idle]

theorem Channel.coherent_slot_iff {k : Fin 11} {ph : Phase} (slot : c.txFsm = .txSlot k ph) :
    c.Coherent d ↔ c.txq.length ≤ d ∧ c.rxFsm = .idle ∧ c.clkPull = (ph == .low) ∧
      c.datPull = !(wire c.txByte).getLsbD k.val := by
  simp [Channel.Coherent, slot]

theorem Channel.Coherent.enqueue (h : c.Coherent d) (b : Byte) : (c.enqueue d b).Coherent d := by
  unfold Channel.enqueue
  split
  · next room => exact ⟨by simpa using room, h.2⟩
  · exact h

theorem Channel.Coherent.enqueueAll (h : c.Coherent d) (bs : List Byte) :
    (bs.foldl (Channel.enqueue d) c).Coherent d := by
  induction bs generalizing c with
  | nil => exact h
  | cons b bs ih => exact ih (h.enqueue b)

theorem Channel.Coherent.dequeue (h : c.Coherent d) {b : Byte} {q : List Byte} (head : c.txq = b :: q) :
    ({ c with txq := q } : Channel).Coherent d := by
  obtain ⟨bound, lines⟩ := h
  rw [head, List.length_cons] at bound
  exact ⟨by simp; omega, lines⟩

theorem Channel.Coherent.rxDeliver (h : c.Coherent d) (b : Byte) : (c.rxDeliver b).Coherent d := by
  unfold Channel.rxDeliver
  split <;> exact h

theorem Channel.Coherent.rxFinish (h : c.Coherent d) (stop : Bool) : (c.rxFinish stop).Coherent d := by
  unfold Channel.rxFinish
  split
  · exact h.rxDeliver _
  · exact h

theorem Channel.Coherent.rxFrame (h : c.Coherent d) (w : BitVec 11) : (c.rxFrame w).Coherent d := by
  unfold Channel.rxFrame
  split
  · exact h.rxDeliver _
  · split <;> exact h

theorem Channel.rxDeliver_txFsm (b : Byte) : (c.rxDeliver b).txFsm = c.txFsm := by
  unfold Channel.rxDeliver
  split <;> rfl

theorem Channel.rxFinish_txFsm (stop : Bool) : (c.rxFinish stop).txFsm = c.txFsm := by
  unfold Channel.rxFinish
  split
  · exact Channel.rxDeliver_txFsm _
  · rfl

/-- The receive state is free while nothing is sent. -/
theorem Channel.Coherent.setRxFsm (h : c.Coherent d) (idle : c.txFsm = .txIdle) (r : RxFsm) :
    ({ c with rxFsm := r } : Channel).Coherent d :=
  (Channel.coherent_idle_iff (c := { c with rxFsm := r }) idle).mpr ((Channel.coherent_idle_iff idle).mp h)

/-- `RX_STEP` runs only while nothing is sent (R237). -/
theorem Channel.Coherent.rxStep (h : c.Coherent d) (idle : c.txFsm = .txIdle) (clk dat : Bool) :
    (c.rxStep clk dat).Coherent d := by
  unfold Channel.rxStep
  split
  · split; exacts [h.setRxFsm idle _, h]
  · split; exacts [h.setRxFsm idle _, h]
  · split_ifs; exacts [h.setRxFsm idle _, h.setRxFsm idle _, h]
  · split; exacts [(h.rxFinish dat).setRxFsm ((c.rxFinish_txFsm dat).trans idle) _, h]
  · split; exacts [h.setRxFsm idle _, h]

/-- `TX_START` drives the start bit, slot 0 of the wire frame (R245). -/
theorem Channel.Coherent.txStart (h : c.Coherent d) (rx : c.rxFsm = .idle) (clk dat : Bool) :
    (c.txStart clk dat).Coherent d := by
  unfold Channel.txStart
  split
  · exact h
  · next b q head =>
    split
    · exact ⟨(h.dequeue head).1, rx, rfl, congrArg (!·) (wire_start b).symm⟩
    · exact h

theorem Channel.Coherent.txAbort (h : c.Coherent d) : c.txAbort.Coherent d := ⟨h.1, rfl, rfl⟩

/-- `TX_STEP`: the data line is written exactly where the slot counter moves (R246 to R249). -/
theorem Channel.Coherent.txStep (h : c.Coherent d) (clk dat : Bool) : (c.txStep clk dat).Coherent d := by
  unfold Channel.txStep
  split
  · exact h
  · next k ph slot =>
    obtain ⟨bound, rx, _, data⟩ := (Channel.coherent_slot_iff slot).mp h
    split
    · exact h.txAbort
    · cases ph with
      | setup => exact ⟨bound, rx, rfl, data⟩
      | low =>
        by_cases more : k.val < 10
        · have succ : (k + 1).val = k.val + 1 := Fin.val_add_one_of_lt (Fin.lt_def.mpr more)
          simp only [if_pos more]
          exact ⟨bound, rx, rfl, by simp only [succ]⟩
        · simp only [if_neg more]
          exact ⟨bound, rfl, rfl⟩

theorem Channel.Coherent.sample (h : c.Coherent d) (clk dat : Bool) : (c.sample clk dat).Coherent d := by
  have received (idle : c.txFsm = .txIdle) := h.rxStep idle clk dat
  unfold Channel.sample
  split_ifs with sending still
  · exact h.txStep clk dat
  · exact (received (not_not.mp sending)).txStart still clk dat
  · exact received (not_not.mp sending)

end

/-! ### What the shared operations keep -/

section
variable {s : State}

/-- A serviced channel may take any coherent state: the rules on unserviced channels do not speak of it. -/
theorem Inv.setChan (h : Inv s) {ch : Chan} (on : s.serviced ch = true) {c : Channel} (coh : c.Coherent s.cfg.ps2TxqDepth) :
    Inv (s.setChan ch c) := by
  cases ch with
  | kbd => exact { h with kbd := coh, kbdIdle := fun off => absurd (on.symm.trans off) nofun }
  | mouse => exact { h with mouse := coh, mouseIdle := fun off => absurd (on.symm.trans off) nofun }

theorem Inv.coherent (h : Inv s) (ch : Chan) : (s.chan ch).Coherent s.cfg.ps2TxqDepth := by
  cases ch
  · exact h.kbd
  · exact h.mouse

theorem Inv.enqueueAll (h : Inv s) {ch : Chan} (on : s.serviced ch = true) (bs : List Byte) : Inv (s.enqueueAll ch bs) := by
  rw [State.enqueueAll_eq]
  exact h.setChan on ((h.coherent ch).enqueueAll bs)

theorem Inv.call (h : Inv s) (c : Call) : Inv (s.call c) := { h with }

theorem Inv.runCrc (h : Inv s) (x : Six) : Inv (s.runCrc x) := { h with }

theorem Inv.settle (h : Inv s) : Inv s.settle := { h with torn := fun _ => rfl }

theorem LoopPos.succ_ne_boot (l : LoopPos) : l.succ ≠ .boot := by cases l <;> nofun

theorem Inv.advance (h : Inv s) : Inv s.advance := { h with noDriver := fun boot => absurd boot s.loop.succ_ne_boot }

theorem Inv.popEvent (h : Inv s) : Inv s.popEvent := { h with }

/-- R222: what the composer makes is well composed. -/
theorem wellComposed_crcAppend (p : Params) (status backend caps : Byte) :
    WellComposed p (crcAppend (responseSix p status backend caps)) :=
  ⟨rfl, rfl, rfl, crcCheck_crcAppend _⟩

theorem Inv.compose (h : Inv s) (st : Byte) : Inv (s.compose st) :=
  { h with cache := fun _ => wellComposed_crcAppend _ _ _ _ }

theorem Inv.respond (h : Inv s) (st : Byte) : Inv (s.respond st) := by
  unfold State.respond
  split
  · exact h
  · exact h.compose st

/-- The tail of `DISPATCH` empties the latch and leaves `Dispatching` together (R157). -/
theorem Inv.enterOutcome (h : Inv s) (st : Byte) : Inv (s.enterOutcome st) :=
  { h.respond st with
    latch := by simp
    noSpiTimeout := fun _ => nofun }

theorem Inv.answer (h : Inv s) (m : Bool) {rule : State → State × Byte} (kept : Inv (rule s).1) :
    Inv (s.answer m rule) := by
  unfold State.answer
  split
  · exact h.enterOutcome _
  · exact kept.enterOutcome _

theorem Inv.recRead (h : Inv s) : Inv s.recRead.1 := by
  unfold State.recRead
  split
  · exact h
  · exact h.runCrc _

/-- R318: an atomic write leaves nothing to tear. -/
theorem Inv.recWrite (h : Inv s) (v : Byte) : Inv (s.recWrite v) :=
  { h with
    torn := fun atomic => (if_pos atomic).trans (h.torn atomic) }

theorem Inv.recUpdate (h : Inv s) (mask bits : Byte) (force : Bool) : Inv (s.recUpdate mask bits force) := by
  unfold State.recUpdate
  split
  · exact h.recWrite _
  · exact h.recRead.recWrite _

theorem Inv.recInit (h : Inv s) : Inv s.recInit.1 := by
  have read := h.recRead
  unfold State.recInit
  split
  · next s' v e => rwa [e] at read
  · next s' e =>
    have kept : Inv s' := by rwa [e] at read
    exact kept.recUpdate (s.cfg.bkKbdMask ||| s.cfg.bkMouseMask) s.cfg.defaultOutputs true

theorem Inv.keyseq (h : Inv s) (on : s.serviced .kbd = true) (code : Byte) (pressed : Bool) : Inv (s.keyseq code pressed) :=
  h.enqueueAll on _

/-- `send_key` reaches the queue only through the PS/2 driver (R186), so only on a serviced channel. -/
theorem Inv.sendKey (h : Inv s) (code : Byte) (pressed : Bool) : Inv (s.sendKey code pressed) := by
  unfold State.sendKey
  split
  · next ps2 => exact (h.call _).keyseq (by simp [State.serviced, ps2]) code pressed
  · exact h.call _

end

/-- `t` is `s` with bytes offered to the keyboard queue and perhaps another parameter awaited. -/
def KbdReplies (s t : State) : Prop := ∃ bs, t = s.kbdReply bs ∨ ∃ pend, t = { s.kbdReply bs with kbdPend := pend }

/-- Everything that a received byte's rule can do (R280). -/
theorem hostByte_replies (s : State) (b : Byte) : KbdReplies s (s.hostByte b) := by
  have replies (bs : List Byte) : KbdReplies s (s.kbdReply bs) := ⟨bs, .inl rfl⟩
  have awaits (bs : List Byte) (pend : Option Pending) : KbdReplies s { s.kbdReply bs with kbdPend := pend } :=
    ⟨bs, .inr ⟨pend, rfl⟩⟩
  have acked : KbdReplies s (s.kbdReply [0xFA#8]) := replies _
  exact iteInduction (fun _ => awaits _ none) fun _ =>
    iteInduction (fun _ => replies [0xFA#8, 0xAA#8]) fun _ =>
    iteInduction (fun _ => replies []) fun _ =>
    iteInduction (fun _ => replies [0xEE#8]) fun _ =>
    iteInduction (fun _ => replies [0xFA#8, 0xAB#8, 0x83#8]) fun _ =>
    iteInduction (fun _ => awaits [0xFA#8] (some .ledParam)) fun _ =>
    iteInduction (fun _ => awaits [0xFA#8] (some .typematicParam)) fun _ =>
    iteInduction (fun _ => acked) fun _ => iteInduction (fun _ => acked) fun _ => iteInduction (fun _ => acked) fun _ => acked

/-- What holds of each command's rule holds of the rule that the command byte selects (R180). -/
theorem runCommand_induction {P : State × Byte → Prop} {s : State} {cmd p0 p1 p2 p3 : Byte} (ping : P (rulePing s))
    (setBackend : ∀ mask, P (ruleSetBackend mask p0 s)) (setUsbConnected : P (ruleSetUsbConnected p0 s))
    (clearAll : P (ruleClearAll s)) (keyEvent : P (ruleKeyEvent p0 p1 s)) (buttons : P (ruleMouseButtonEvent p0 p1 s))
    (absoluteMove : P (ruleMouseAbsoluteMove p0 p1 p2 p3 s)) (relativeMove : P (ruleMouseRelativeMove p0 p1 s))
    (wheel : P (ruleMouseWheel p1 s)) (repeatLast : P (ruleRepeatLast s)) (unrecognised : P (ruleUnrecognised s)) :
    P (runCommand cmd p0 p1 p2 p3 s) :=
  iteInduction (fun _ => ping) fun _ => iteInduction (fun _ => setBackend _) fun _ =>
  iteInduction (fun _ => setBackend _) fun _ => iteInduction (fun _ => setUsbConnected) fun _ =>
  iteInduction (fun _ => clearAll) fun _ => iteInduction (fun _ => keyEvent) fun _ =>
  iteInduction (fun _ => buttons) fun _ => iteInduction (fun _ => absoluteMove) fun _ =>
  iteInduction (fun _ => relativeMove) fun _ => iteInduction (fun _ => wheel) fun _ =>
  iteInduction (fun _ => repeatLast) fun _ => unrecognised

section
variable {s : State}

theorem Inv.hostByte (h : Inv s) (on : s.serviced .kbd = true) (b : Byte) : Inv (s.hostByte b) := by
  obtain ⟨bs, e | ⟨pend, e⟩⟩ := hostByte_replies s b
  · exact e ▸ h.enqueueAll on bs
  · exact e ▸ { h.enqueueAll on bs with }

/-! ### What a command's rule keeps -/

/-- R182, R183: the flag is set only on a build with dynamic configuration. -/
theorem Inv.ruleSetBackend (h : Inv s) (mask bits : Byte) : Inv (ruleSetBackend mask bits s).1 := by
  unfold Machine.ruleSetBackend
  split
  · next dynamic =>
    exact { h.recUpdate mask bits false with
      resetRequired := fun _ => (congrArg Params.dynamicSupported (s.recUpdate_cfg mask bits false)).trans dynamic }
  · exact h

theorem Inv.ruleSetUsbConnected (h : Inv s) (flag : Byte) : Inv (ruleSetUsbConnected flag s).1 := by
  unfold Machine.ruleSetUsbConnected
  split
  · exact { h.call (.setVbusConnected (flagOf flag)) with }
  · exact h

theorem Inv.runCommand (h : Inv s) (cmd p0 p1 p2 p3 : Byte) : Inv (runCommand cmd p0 p1 p2 p3 s).1 :=
  runCommand_induction (P := fun r => Inv r.1)
    (ping := h)
    (setBackend := fun mask => h.ruleSetBackend mask p0)
    (setUsbConnected := h.ruleSetUsbConnected p0)
    (clearAll := (h.call _).call _)
    (keyEvent := h.sendKey _ _)
    (buttons := h.call _)
    (absoluteMove := h.call _)
    (relativeMove := h.call _)
    (wheel := h.call _)
    (repeatLast := h)
    (unrecognised := h)

theorem Inv.dispatchReq (h : Inv s) (r : Req) : Inv (s.dispatchReq r) := by
  cases r with
  | ok magicOk cmd p0 p1 p2 p3 => exact h.answer magicOk (h.runCommand cmd p0 p1 p2 p3)
  | crcErr => exact h.enterOutcome _
  | timeout => exact h.enterOutcome _

/-! ### What an agent's step keeps -/

variable {t : State}

/-- R151: a byte is stored only below index 8. -/
theorem Inv.frameRxbyte (h : Inv s) {b : Byte} (run : execFrameRxbyte b s = .next t) : Inv t := by
  cases run
  split
  · split
    · next room => exact { h with rxIdx := Nat.succ_le_of_lt room }
    · exact { h with }
  · exact h

theorem decodeRequest_ne_timeout (p : Params) (f : Frame) : some (decodeRequest p f) ≠ some .timeout := by
  unfold decodeRequest
  split <;> nofun

/-- R152: the latch is filled with what the frame decodes to, which is never a timeout. -/
theorem Inv.frameTake (h : Inv s) (run : execFrameTake s = .next t) : Inv t := by
  cases run
  split
  · exact { h with
      rxIdx := Nat.zero_le 8
      latch := by simp
      noSpiTimeout := fun _ => decodeRequest_ne_timeout _ _ }
  · exact h

/-- R153: the timeout is a step of the serial transport. -/
theorem Inv.frameTimeout (h : Inv s) (run : execFrameTimeout s = .next t) : Inv t := by
  cases run
  split
  · next enabled =>
    exact { h with
      rxIdx := Nat.zero_le 8
      latch := by simp
      noSpiTimeout := fun spi => absurd (enabled.1.symm.trans spi) nofun }
  · exact h

theorem Inv.dispatch (h : Inv s) (run : execDispatch s = .next t) : Inv t := by
  cases run
  split
  · split
    · exact h
    · exact h.dispatchReq _
  · exact h

/-- The latch is empty in `Responding`, so leaving for `Idle` keeps it empty outside `Dispatching` (R347). -/
theorem Inv.leaveOutcome (h : Inv s) (responding : s.disp = .responding) : Inv s.leaveOutcome :=
  { h with
    latch := by
      have empty := h.latch
      rw [responding] at empty
      simpa using empty }

theorem Inv.frameEmit (h : Inv s) (run : execFrameEmit s = .next t) : Inv t := by
  cases run
  split
  · next responding =>
    have idle := h.leaveOutcome responding
    split
    · exact { idle with }
    · split
      · exact { idle with }
      · exact h
  · exact h

/-- R166: a byte is received only below index 8. -/
theorem Inv.spiReceive (h : Inv s) (b : Byte) : Inv (s.spiReceive b) := by
  unfold State.spiReceive
  split
  · next room => exact { h with rxIdx := Nat.succ_le_of_lt room.1 }
  · exact h

theorem Inv.spiExchange (h : Inv s) {b : Byte} (run : execSpiExchange b s = .next t) : Inv t := by
  cases run
  split
  · split
    · split <;> exact { h with }
    · exact { h.spiReceive b with }
  · exact h

theorem Inv.ps2Sample (h : Inv s) {ch : Chan} (run : execPs2Sample ch s = .next t) : Inv t := by
  cases run
  split
  · next on => exact h.setChan on ((h.coherent ch).sample _ _)
  · exact h

theorem Inv.emptyLatch (h : Inv s) {ch : Chan} (on : s.serviced ch = true) : Inv (s.setChan ch (s.chan ch).emptyLatch) :=
  h.setChan on (h.coherent ch)

theorem Inv.ps2Take (h : Inv s) {ch : Chan} (on : s.serviced ch = true) (run : execPs2Take ch s = .next t) : Inv t := by
  cases run
  split
  · exact h
  · exact { h.emptyLatch on with }

theorem Inv.ps2Rxframe (h : Inv s) {ch : Chan} {w : BitVec 11} (run : execPs2Rxframe ch w s = .next t) : Inv t := by
  cases run
  split
  · next enabled => exact h.setChan (Bool.and_eq_true_iff.mp enabled).1 ((h.coherent ch).rxFrame w)
  · exact h

theorem Inv.ps2Txframe (h : Inv s) {ch : Chan} (run : execPs2Txframe ch s = .next t) : Inv t := by
  cases run
  split
  · next enabled =>
    split
    · exact h
    · next head => exact { h.setChan (Bool.and_eq_true_iff.mp enabled).1 ((h.coherent ch).dequeue head) with }
  · exact h

theorem Inv.kbdHostbyte (h : Inv s) (on : s.serviced .kbd = true) (run : execKbdHostbyte s = .next t) : Inv t := by
  cases run
  split
  · exact h
  · exact Inv.hostByte (h.emptyLatch on) on _

/-- A step of an agent keeps the invariant, provided that the channel it works for, if any, is serviced. -/
theorem Inv.exec {i : Instr} (h : Inv s) (own : isEvent i = true)
    (on : ∀ ch, channelOf i = some ch → s.serviced ch = true) (run : exec i s = .next t) : Inv t := by
  obtain (⟨b, rfl⟩ | ⟨b, rfl⟩ | ⟨ch, rfl⟩ | ⟨ch, w, rfl⟩ | ⟨ch, rfl⟩) | rfl | rfl | ⟨b, rfl⟩ | ⟨d, rfl⟩ | ⟨f, rfl⟩ |
    ⟨x, rfl⟩ | rfl | rfl | ⟨f, rfl⟩ | rfl | ⟨x, b, c, rfl⟩ | rfl | ⟨ch, rfl⟩ | ⟨ch, b, rfl⟩ | rfl | rfl :=
    isOwnStep_of_isEvent own
  · exact h.frameRxbyte run
  · exact h.spiExchange run
  · exact h.ps2Sample run
  · exact h.ps2Rxframe run
  · exact h.ps2Txframe run
  iterate 4
    cases run
    exact { h with }
  · cases run; exact { h.runCrc f.six with }
  · cases run; exact { h.runCrc x with }
  · exact h.frameTake run
  · exact h.frameTimeout run
  · cases run; exact { h.runCrc f.six with }
  · exact h.dispatch run
  · cases run; exact { h.runCrc (responseSix s.cfg x b c) with }
  · exact h.frameEmit run
  · exact h.ps2Take (on ch rfl) run
  · cases run; exact h.enqueueAll (on ch rfl) [b]
  · exact h.kbdHostbyte (on .kbd rfl) run
  · cases run; exact { h.recRead with }

/-- The environment's changes leave the drivers, and with them which channels are serviced. -/
theorem Inv.setEnv (h : Inv s) {e : Env} (kbdKind : e.kbdKind = s.env.kbdKind) (mouseKind : e.mouseKind = s.env.mouseKind) :
    Inv { s with env := e } :=
  { h with
    kbdIdle := fun off => h.kbdIdle (by simpa [State.serviced, kbdKind] using off)
    mouseIdle := fun off => h.mouseIdle (by simpa [State.serviced, mouseKind] using off)
    noDriver := fun boot => by simpa [kbdKind, mouseKind] using h.noDriver boot }

/-- Before boot there is no driver, so neither channel is serviced (R371, R233). -/
theorem Inv.untouched_of_boot (h : Inv s) (boot : s.loop = .boot) : s.kbd.Untouched ∧ s.mouse.Untouched := by
  obtain ⟨noKbd, noMouse⟩ := h.noDriver boot
  exact ⟨h.kbdIdle (by simp [State.serviced, noKbd]), h.mouseIdle (by simp [State.serviced, noMouse])⟩

/-- Drivers that find both channels untouched may be of any kind. -/
theorem Inv.enterLoop (h : Inv s) (kbd : s.kbd.Untouched) (mouse : s.mouse.Untouched) (e : Env) :
    Inv { s with env := e, loop := .periodic } :=
  { h with
    kbdIdle := fun _ => kbd
    mouseIdle := fun _ => mouse
    noDriver := nofun }

/-- The boot sequence, with the record resolved first (R371). -/
theorem boot_eq (s : State) : s.boot = { (s.recInit.1.call .kbdBegin).call .mouseBegin with
    env := s.recInit.1.env.instantiate s.cfg s.recInit.2, loop := .periodic } := by
  unfold State.boot
  rfl

theorem Inv.boot (h : Inv s) (boot : s.loop = .boot) : Inv s.boot := by
  obtain ⟨kbd, mouse⟩ := h.untouched_of_boot boot
  rw [boot_eq]
  exact ((h.recInit.call .kbdBegin).call .mouseBegin).enterLoop (by simpa using kbd) (by simpa using mouse) _

theorem Inv.restart (h : Inv s) (landed : Byte) : Inv (s.restart landed) :=
  { inv_resetWith h.cfg (s.nvAfterRestart landed) with }

end

/-! ### Everything one step can do -/

/-- What can happen to the machine in one step other than a restart, from the state with the event taken off the schedule and the
record write before it over. -/
inductive Moves (s : State) : State → Prop where
  /-- A scheduled row whose agent is not enabled. -/
  | stays : Moves s s
  /-- An agent's step, in its own time. -/
  | runs {i : Instr} {t : State} (own : isEvent i = true) (on : ∀ ch, channelOf i = some ch → s.serviced ch = true)
      (run : exec i s = .next t) : Moves s t
  /-- An environment input changes. -/
  | input (c : EnvChange) : Moves s { s with env := s.env.change c }
  /-- `MAIN` boots. -/
  | boots (boot : s.loop = .boot) : Moves s s.boot
  /-- `MAIN` calls `periodic()`. -/
  | periodic : Moves s (s.call .kbdPeriodic).advance
  /-- `MAIN` passes a channel that is not serviced. -/
  | passes : Moves s s.advance
  /-- `MAIN` takes the step of its place. -/
  | loops {i : Instr} {t : State} (own : isEvent i = true) (on : ∀ ch, channelOf i = some ch → s.serviced ch = true)
      (run : exec i s = .next t) : Moves s t.advance

section
variable {s t : State}

theorem next_of_mapNext {f : State → State} {o : Step} (h : mapNext f o = .next t) : ∃ u, o = .next u ∧ t = f u := by
  cases o with
  | next u =>
    cases h
    exact ⟨u, rfl, rfl⟩
  | fault => cases h
  | refused => cases h

/-- R373: a place of the loop runs an agent's step, and a channel's only while the channel is serviced. -/
theorem loopInstr_enabled {i : Instr} (h : s.loopInstr = some i) :
    isEvent i = true ∧ ∀ ch, channelOf i = some ch → s.serviced ch = true := by
  unfold State.loopInstr at h
  split at h
  case h_1 | h_2 => cases h
  case h_3 | h_4 | h_5 | h_6 => cases h; exact ⟨rfl, nofun⟩
  case h_7 | h_8 =>
    split at h
    · next on =>
      cases h
      exact ⟨rfl, fun ch worksOn => by cases worksOn; exact on⟩
    · cases h

/-- R371 and R233: what an enabled agent's row may rely on. -/
theorem serviced_of_stepEnabled {i : Instr} (h : s.stepEnabled i = true) :
    ∀ ch, channelOf i = some ch → s.serviced ch = true := by
  intro ch worksOn
  exact ((stepEnabled_iff s i).mp h).2 ch ((channelOf_eq_some_iff i ch).mp worksOn)

/-- Taking a keyboard byte and handling it is a step of the same agent on the same channel (R244). -/
theorem agentStep_kind (i : Instr) : isEvent (agentStep i) = isEvent i ∧ channelOf (agentStep i) = channelOf i := by
  unfold agentStep
  split <;> exact ⟨rfl, rfl⟩

theorem mainStep_moves (h : s.mainStep = .next t) : Moves s t := by
  unfold State.mainStep at h
  split at h
  · next boot => cases h; exact .boots boot
  · cases h; exact .periodic
  · split at h
    · cases h; exact .passes
    · next place =>
      obtain ⟨own, on⟩ := loopInstr_enabled place
      obtain ⟨u, run, rfl⟩ := next_of_mapNext h
      exact .loops own on run

/-- Everything that one step can do. -/
theorem step_cases (h : step s = .next t) :
    Moves s.popEvent.settle t ∨ ∃ landed, s.nextEvent = .restart landed ∧ t = s.popEvent.restart landed := by
  unfold step at h
  cases event : s.nextEvent with
  | main => rw [event] at h; exact .inl (mainStep_moves h)
  | op i =>
    rw [event] at h
    simp only [runEvent] at h
    split_ifs at h with own enabled
    · obtain ⟨sameOwn, sameChannel⟩ := agentStep_kind i
      refine .inl (.runs (sameOwn.trans own) ?_ h)
      rw [sameChannel]
      exact serviced_of_stepEnabled enabled
    · cases h; exact .inl .stays
  | env c => rw [event] at h; cases h; exact .inl (.input c)
  | restart landed => rw [event] at h; cases h; exact .inr ⟨landed, rfl, rfl⟩

/-- The environment owns no driver (R39, R371). -/
theorem change_drivers (e : Env) (c : EnvChange) :
    (e.change c).kbdKind = e.kbdKind ∧ (e.change c).mouseKind = e.mouseKind ∧
    (e.change c).kbdBackend = e.kbdBackend ∧ (e.change c).mouseBackend = e.mouseBackend := by
  cases c with
  | pulls ch => cases ch <;> exact ⟨rfl, rfl, rfl, rfl⟩
  | _ => exact ⟨rfl, rfl, rfl, rfl⟩

theorem Inv.moves (h : Inv s) (m : Moves s t) : Inv t := by
  cases m with
  | stays => exact h
  | runs own on run => exact h.exec own on run
  | input c =>
    obtain ⟨kbdKind, mouseKind, -⟩ := change_drivers s.env c
    exact h.setEnv kbdKind mouseKind
  | boots boot => exact h.boot boot
  | periodic => exact (h.call .kbdPeriodic).advance
  | passes => exact h.advance
  | loops own on run => exact (h.exec own on run).advance

end

/-- Settles O58: a step is one of the moves of `step_cases`, each of which keeps the invariant, or a restart, which establishes
it. -/
theorem everyStepKeepsTheInvariant : Obligations.EveryStepKeepsTheInvariant := by
  intro s t h run
  obtain move | ⟨landed, -, rfl⟩ := step_cases run
  · exact h.popEvent.settle.moves move
  · exact h.popEvent.restart landed

end Sys2Proof.Machine
end

section
/-! What no step but a restart changes: the build, the drivers in use and their selections, and the reset-required flag once set. -/

namespace Sys2Proof.Machine

/-- `t` runs the same build with the same drivers as `s`, and the reset-required flag is not lost. -/
structure KeepsDrivers (s t : State) : Prop where
  cfg : t.cfg = s.cfg
  kbdKind : t.env.kbdKind = s.env.kbdKind
  mouseKind : t.env.mouseKind = s.env.mouseKind
  kbdBackend : t.env.kbdBackend = s.env.kbdBackend
  mouseBackend : t.env.mouseBackend = s.env.mouseBackend
  resetRequired : s.resetRequired = true → t.resetRequired = true

section
variable {s t u : State}

/-! ### Shared operations and commands -/

theorem KeepsDrivers.refl (s : State) : KeepsDrivers s s := ⟨rfl, rfl, rfl, rfl, rfl, id⟩

theorem KeepsDrivers.trans (h : KeepsDrivers s t) (k : KeepsDrivers t u) : KeepsDrivers s u :=
  ⟨k.cfg.trans h.cfg, k.kbdKind.trans h.kbdKind, k.mouseKind.trans h.mouseKind, k.kbdBackend.trans h.kbdBackend,
    k.mouseBackend.trans h.mouseBackend, k.resetRequired ∘ h.resetRequired⟩

/-- The usual reason: an operation that writes neither the parameters, nor the environment, nor the flag. -/
theorem KeepsDrivers.of_eq (cfg : t.cfg = s.cfg) (env : t.env = s.env) (flag : t.resetRequired = s.resetRequired) :
    KeepsDrivers s t :=
  ⟨cfg, by rw [env], by rw [env], by rw [env], by rw [env], fun set => flag.trans set⟩

theorem KeepsDrivers.setChan (s : State) (ch : Chan) (c : Channel) : KeepsDrivers s (s.setChan ch c) :=
  .of_eq (by simp) (by simp) (by simp)

theorem KeepsDrivers.enterOutcome (h : KeepsDrivers s t) (st : Byte) : KeepsDrivers s (t.enterOutcome st) :=
  h.trans (.of_eq (by simp) (by simp) (by simp))

theorem KeepsDrivers.answer (m : Bool) {rule : State → State × Byte} (kept : KeepsDrivers s (rule s).1) :
    KeepsDrivers s (s.answer m rule) := by
  unfold State.answer
  split
  · exact (KeepsDrivers.refl s).enterOutcome _
  · exact kept.enterOutcome _

/-- R29: the flag is only ever set. -/
theorem KeepsDrivers.ruleSetBackend (s : State) (mask bits : Byte) : KeepsDrivers s (ruleSetBackend mask bits s).1 := by
  unfold Machine.ruleSetBackend
  split
  · exact ⟨by simp, by simp, by simp, by simp, by simp, fun _ => rfl⟩
  · exact .refl s

theorem KeepsDrivers.ruleSetUsbConnected (s : State) (flag : Byte) : KeepsDrivers s (ruleSetUsbConnected flag s).1 := by
  unfold Machine.ruleSetUsbConnected
  split
  · exact ⟨rfl, rfl, rfl, rfl, rfl, id⟩
  · exact .refl s

theorem KeepsDrivers.runCommand (s : State) (cmd p0 p1 p2 p3 : Byte) : KeepsDrivers s (runCommand cmd p0 p1 p2 p3 s).1 :=
  runCommand_induction (P := fun r => KeepsDrivers s r.1)
    (ping := .refl s)
    (setBackend := fun mask => .ruleSetBackend s mask p0)
    (setUsbConnected := .ruleSetUsbConnected s p0)
    (clearAll := .of_eq rfl rfl rfl)
    (keyEvent := .of_eq (s.sendKey_cfg _ _) (s.sendKey_env _ _) (s.sendKey_resetRequired _ _))
    (buttons := .of_eq rfl rfl rfl)
    (absoluteMove := .of_eq rfl rfl rfl)
    (relativeMove := .of_eq rfl rfl rfl)
    (wheel := .of_eq rfl rfl rfl)
    (repeatLast := .refl s)
    (unrecognised := .refl s)

theorem KeepsDrivers.dispatchReq (s : State) (r : Req) : KeepsDrivers s (s.dispatchReq r) := by
  cases r with
  | ok magicOk cmd p0 p1 p2 p3 => exact .answer magicOk (.runCommand s cmd p0 p1 p2 p3)
  | crcErr => exact (KeepsDrivers.refl s).enterOutcome _
  | timeout => exact (KeepsDrivers.refl s).enterOutcome _

theorem KeepsDrivers.hostByte (s : State) (b : Byte) : KeepsDrivers s (s.hostByte b) := by
  obtain ⟨bs, e | ⟨pend, e⟩⟩ := hostByte_replies s b
  all_goals
    rw [e]
    exact .of_eq (s.kbdReply_cfg bs) (s.kbdReply_env bs) (s.kbdReply_resetRequired bs)

/-! ### Steps -/

/-- R73, R151: an interrupt row writes buffers, and of the environment the timeout input alone. -/
theorem KeepsDrivers.interrupt {i : Instr} (row : IsInterruptRow i) (run : exec i s = .next t) : KeepsDrivers s t := by
  obtain ⟨b, rfl⟩ | ⟨b, rfl⟩ | ⟨ch, rfl⟩ | ⟨ch, w, rfl⟩ | ⟨ch, rfl⟩ := row <;> cases run
  · split
    · split <;> exact ⟨rfl, rfl, rfl, rfl, rfl, id⟩
    · exact .refl s
  · split
    · split
      · split <;> exact .of_eq rfl rfl rfl
      · unfold State.spiReceive
        split <;> exact .of_eq rfl rfl rfl
    · exact .refl s
  · split
    · exact .setChan s ch _
    · exact .refl s
  · split
    · exact .setChan s ch _
    · exact .refl s
  · split
    · split
      · exact .refl s
      · next q _ => exact (KeepsDrivers.setChan s ch { s.chan ch with txq := q }).trans (.of_eq rfl rfl rfl)
    · exact .refl s

theorem KeepsDrivers.exec {i : Instr} (own : isEvent i = true) (run : exec i s = .next t) : KeepsDrivers s t := by
  obtain row | rfl | rfl | ⟨b, rfl⟩ | ⟨d, rfl⟩ | ⟨f, rfl⟩ | ⟨x, rfl⟩ | rfl | rfl | ⟨f, rfl⟩ | rfl | ⟨x, b, c, rfl⟩ | rfl |
    ⟨ch, rfl⟩ | ⟨ch, b, rfl⟩ | rfl | rfl := isOwnStep_of_isEvent own
  · exact .interrupt row run
  all_goals cases run
  iterate 6 exact .of_eq rfl rfl rfl
  · split <;> exact .of_eq rfl rfl rfl
  · split <;> exact .of_eq rfl rfl rfl
  · exact .of_eq rfl rfl rfl
  · split
    · split
      · exact .refl s
      · exact .dispatchReq s _
    · exact .refl s
  · exact .of_eq rfl rfl rfl
  · split
    · split
      · exact .of_eq rfl rfl rfl
      · split <;> exact .of_eq rfl rfl rfl
    · exact .refl s
  · split
    · exact .refl s
    · exact (KeepsDrivers.setChan s ch (s.chan ch).emptyLatch).trans (.of_eq rfl rfl rfl)
  · exact .setChan s ch _
  · split
    · exact .refl s
    · exact (KeepsDrivers.setChan s .kbd s.kbd.emptyLatch).trans (.hostByte _ _)
  · exact .of_eq (by simp) (by simp) (by simp)

/-- Every move but the boot keeps the drivers (R39, R319). -/
theorem Moves.keepsDrivers_or_boots (m : Moves s t) : KeepsDrivers s t ∨ s.loop = .boot ∧ t = s.boot := by
  cases m with
  | stays => exact .inl (.refl s)
  | runs own _ run => exact .inl (.exec own run)
  | input c =>
    obtain ⟨kbdKind, mouseKind, kbdBackend, mouseBackend⟩ := change_drivers s.env c
    exact .inl ⟨rfl, kbdKind, mouseKind, kbdBackend, mouseBackend, id⟩
  | boots boot => exact .inr ⟨boot, rfl⟩
  | periodic => exact .inl (.of_eq rfl rfl rfl)
  | passes => exact .inl (.of_eq rfl rfl rfl)
  | loops own _ run => exact .inl ((KeepsDrivers.exec own run).trans (.of_eq rfl rfl rfl))

theorem boot_cfg (s : State) : s.boot.cfg = s.cfg := by simp [boot_eq]

theorem boot_resetRequired (s : State) : s.boot.resetRequired = s.resetRequired := by simp [boot_eq]

end

/-- Settles O60: a move that is not the boot keeps everything named, the boot keeps the build and the flag, and a restart the
build. -/
theorem onlyARestartChangesTheDrivers : Obligations.OnlyARestartChangesTheDrivers := by
  intro s t run
  obtain move | ⟨landed, isRestart, rfl⟩ := step_cases run
  · obtain kept | ⟨boot, rfl⟩ := move.keepsDrivers_or_boots
    · exact ⟨kept.cfg, fun _ =>
        ⟨kept.resetRequired, fun _ => ⟨kept.kbdKind, kept.mouseKind, kept.kbdBackend, kept.mouseBackend⟩⟩⟩
    · exact ⟨boot_cfg _, fun _ => ⟨fun set => (boot_resetRequired _).trans set, fun booted => absurd boot booted⟩⟩
  · exact ⟨rfl, fun noRestart => absurd isRestart (noRestart landed)⟩

end Sys2Proof.Machine
end

section
/-! Whole lists of bytes written to a byte space (R60): the cells outside the written range, the written range read back, and the
statement about both. -/

namespace Sys2Proof.Machine

/-- Induction on the list: each single byte goes to a cell other than `j`. -/
theorem get_write_outside (f : Frame) {i j : Nat} {v : List Byte} (h : j < i ∨ i + v.length ≤ j) :
    (f.write i v).get j = f.get j := by
  induction v generalizing f i with
  | nil => rfl
  | cons b v ih =>
    rw [List.length_cons] at h
    calc ((f.set i b).write (i + 1) v).get j
      _ = (f.set i b).get j := ih _ (by omega)
      _ = f.get j := f.get_set_ne (by omega) b

theorem drop_toList_eq_get_cons (f : Frame) {i : Nat} (h : i < 8) :
    f.toList.drop i = f.get i :: f.toList.drop (i + 1) := by
  rw [List.drop_eq_getElem_cons (by simpa using h), Frame.get, List.getD_eq_getElem]

/-- Induction on the list: the first byte survives the writing of the others, which go to the cells after it. -/
theorem take_drop_toList_write (f : Frame) {i : Nat} {v : List Byte} (h : i + v.length ≤ 8) :
    ((f.write i v).toList.drop i).take v.length = v := by
  induction v generalizing f i with
  | nil => exact List.take_zero
  | cons b v ih =>
    rw [List.length_cons] at h
    have first : ((f.set i b).write (i + 1) v).get i = b :=
      (get_write_outside _ (.inl i.lt_succ_self)).trans (f.get_set_same (by omega) b)
    rw [drop_toList_eq_get_cons _ (by omega), List.length_cons, List.take_succ_cons, Frame.write, first,
      ih _ (by omega)]

section
variable (s : State) (sp : Space) {i : Nat} {v : List Byte}

theorem memWrite_in_range (h : i + v.length ≤ 8) : memWrite s sp i v = .ok (s.setUnit sp ((s.unit sp).write i v)) :=
  if_pos h

theorem memRead_setUnit_write (h : i + v.length ≤ 8) :
    memRead (s.setUnit sp ((s.unit sp).write i v)) sp i v.length = .ok v := by
  rw [memRead, if_pos h, unit_setUnit, take_drop_toList_write _ h]

theorem memRead_setUnit_write_outside {sp' : Space} {j : Nat} (hj : j < 8) (h : sp' ≠ sp ∨ j < i ∨ i + v.length ≤ j) :
    memRead (s.setUnit sp ((s.unit sp).write i v)) sp' j 1 = memRead s sp' j 1 := by
  rw [memRead_one _ sp' hj, memRead_one _ sp' hj]
  by_cases same : sp' = sp
  · subst same
    rw [unit_setUnit, get_write_outside _ (h.resolve_left (absurd rfl))]
  · rw [unit_setUnit_ne s same]

end

/-- Settles O5: beyond the eighth cell both accesses are refused; inside, the written range reads back and the rest is kept. -/
theorem spacesAreEightCells : Obligations.SpacesAreEightCells := by
  intro s sp i v
  refine ⟨fun beyond => ⟨memRead_out_of_range s sp beyond, memWrite_out_of_range s sp beyond⟩, fun inside => ?_⟩
  exact ⟨_, memWrite_in_range s sp inside, memRead_setUnit_write s sp inside,
    fun _ _ cell outside => memRead_setUnit_write_outside s sp cell outside⟩

end Sys2Proof.Machine
end

section
/-! Encoded rows read back (30_encoding.md).  The per-row laws of `Laws.RoundTrip` cover every row, and a word of the opcode table
that is a row's encoding names that row. -/

namespace Sys2Proof

open Laws.RoundTrip

/-- R90, R94, R108: thirteen rows are read back from a request frame and eleven from a host byte; every other row is an operation,
and no bit pattern encodes it. -/
theorem decode_encode (i : Instr) : Statement i := by
  cases i with
  | ping m x0 x1 x2 x3 => exact ping m x0 x1 x2 x3
  | repeatLast m x0 x1 x2 x3 => exact repeatLast m x0 x1 x2 x3
  | setKeyboardBackend m bits x1 x2 x3 => exact setKeyboardBackend m bits x1 x2 x3
  | setMouseBackend m bits x1 x2 x3 => exact setMouseBackend m bits x1 x2 x3
  | setUsbConnected m flag x1 x2 x3 => exact setUsbConnected m flag x1 x2 x3
  | clearAll m x0 x1 x2 x3 => exact clearAll m x0 x1 x2 x3
  | keyEvent m code pressed x2 x3 => exact keyEvent m code pressed x2 x3
  | mouseAbsoluteMove m xHi xLo yHi yLo => exact mouseAbsoluteMove m xHi xLo yHi yLo
  | mouseButtonEvent m mask0 mask1 x2 x3 => exact mouseButtonEvent m mask0 mask1 x2 x3
  | mouseWheel m x0 dy x2 x3 => exact mouseWheel m x0 dy x2 x3
  | mouseRelativeMove m dx dy x2 x3 => exact mouseRelativeMove m dx dy x2 x3
  | unrecognisedCommand m cmd x0 x1 x2 x3 => exact unrecognisedCommand m cmd x0 x1 x2 x3
  | crcMismatch f => exact crcMismatch f
  | kbdReset => exact kbdReset
  | kbdResend => exact kbdResend
  | kbdEcho => exact kbdEcho
  | kbdIdentify => exact kbdIdentify
  | kbdSetLeds => exact kbdSetLeds
  | kbdSetTypematic => exact kbdSetTypematic
  | kbdEnableScanning => exact kbdEnableScanning
  | kbdDisable => exact kbdDisable
  | kbdDefault => exact kbdDefault
  | kbdAnyOther b => exact kbdAnyOther b
  | kbdParameterByte b => exact kbdParameterByte b
  | _ =>
    intro _ _ _ _ _ _ encoded
    cases encoded

/-- Settles O11: the round trip of every row. -/
theorem encodedRowsDecodeToThemselves : Obligations.EncodedRowsDecodeToThemselves :=
  fun i p src bs params row source encoded => decode_encode i p params row src bs source encoded

/-! ### Words of the opcode table -/

/-- R90: a 64-bit word whose bytes are a row's frame stands for that row. -/
theorem decodeTableWord_of_frame {i : Instr} {w : Nat} (row : i.wf pRef = true)
    (frame : i.frame? pRef = some (Frame.ofNat64 w)) : decodeTableWord 64 w = some i := by
  have decoded : decode pRef .request (Frame.ofNat64 w).toList = .ok i :=
    decode_encode i pRef Machine.pRef_wellFormed row .request _ (by simp [Instr.source?, frame])
      (by simp [encode, frame])
  simp [decodeTableWord, decoded, Except.toOption]

/-- R107: an 8-bit word that is a row's host byte stands for that row, where no parameter byte is awaited. -/
theorem decodeTableWord_of_hostByte {i : Instr} {w : Nat} (row : i.wf pRef = true) (noFrame : i.frame? pRef = none)
    (byte : i.hostByte? = some (BitVec.ofNat 8 w)) (command : i.awaited = false) : decodeTableWord 8 w = some i := by
  have decoded : decode pRef (.keyboard false) [BitVec.ofNat 8 w] = .ok i :=
    decode_encode i pRef Machine.pRef_wellFormed row (.keyboard false) _
      (by simp [Instr.source?, noFrame, byte, command]) (by simp [encode, noFrame, byte])
  simp [decodeTableWord, decoded, Except.toOption]

set_option maxRecDepth 2000 in
/-- Settles O13: each word is the frame or the host byte of its row, and the CRC of the sixth differs from the stored one. -/
theorem sampleWordsDecode : Obligations.SampleWordsDecode :=
  ⟨decodeTableWord_of_frame (by decide) (by decide), decodeTableWord_of_frame (by decide) (by decide),
    decodeTableWord_of_frame (by decide) (by decide), decodeTableWord_of_frame (by decide) (by decide),
    decodeTableWord_of_frame (by decide) (by decide), decodeTableWord_of_frame (by decide) (by decide),
    decodeTableWord_of_hostByte (by decide) rfl (by decide) rfl, decodeTableWord_of_hostByte (by decide) rfl (by decide) rfl⟩

end Sys2Proof
end

section
/-! What a request does, whichever row its bytes decode to: the magic policy first (R111), then the rule that the command byte
selects (R180), which reads no payload byte beyond the command's arity (R97). -/

namespace Sys2Proof.Machine

/-! ### The decoded row runs the selected rule -/

/-- Two selections by the same condition are related where their branches are. -/
theorem ite_related {α β : Type} {R : α → β → Prop} {c : Prop} [Decidable c] {a a' : α} {b b' : β} (pos : c → R a b)
    (neg : ¬c → R a' b') : R (if c then a else a') (if c then b else b') := by
  by_cases h : c
  · simpa only [if_pos h] using pos h
  · simpa only [if_neg h] using neg h

/-- The row `i` answers a request with magic byte `m` by the state and status `r` that its rule gives. -/
def AnswersBy (s : State) (m : Byte) (i : Instr) (r : State × Byte) : Prop :=
  exec i s = .next (s.answer (s.magicOk m) fun _ => r)

/-- R180: `decodeCommand` and `runCommand` compare the command byte with the same codes in the same order, and each selected row
answers by the rule selected with it. -/
theorem decodeCommand_answersBy_runCommand (s : State) (m cmd p0 p1 p2 p3 : Byte) :
    AnswersBy s m (decodeCommand s.cfg m cmd p0 p1 p2 p3) (runCommand cmd p0 p1 p2 p3 s) :=
  ite_related (fun _ping => rfl) fun _ => ite_related (fun _setKeyboardBackend => rfl) fun _ =>
  ite_related (fun _setMouseBackend => rfl) fun _ => ite_related (fun _setUsbConnected => rfl) fun _ =>
  ite_related (fun _clearAll => rfl) fun _ => ite_related (fun _keyEvent => rfl) fun _ =>
  ite_related (fun _mouseButtonEvent => rfl) fun _ => ite_related (fun _mouseAbsoluteMove => rfl) fun _ =>
  ite_related (fun _mouseRelativeMove => rfl) fun _ => ite_related (fun _mouseWheel => rfl) fun _ =>
  ite_related (fun _repeatLast => rfl) fun _unrecognised => rfl

/-- R110, R157: the row that a frame with a good CRC decodes to. -/
theorem exec_decodeFrame (s : State) {f : Frame} (good : crcCheck f = true) :
    exec (decodeFrame s.cfg f) s = .next (s.answer (s.magicOk f.b0) (runCommand f.b1 f.b2 f.b3 f.b4 f.b5)) := by
  rw [decodeFrame, if_pos good]
  exact decodeCommand_answersBy_runCommand s f.b0 f.b1 f.b2 f.b3 f.b4 f.b5

/-- Settles O28: the answer is given before the command byte is looked at. -/
theorem wrongMagicIsTurnedAway : Obligations.WrongMagicIsTurnedAway := by
  intro s f wf policy good wrong
  rw [exec_decodeFrame s good, answer_rejects s policy wrong, enterOutcome_error s (stInvalidError_ok wf)]

/-! ### Arities (R96) -/

section
variable {p : Params} {cmd : Byte}

theorem arityOf_eq_one (h : cmd = p.cmdSetKeyboardBackend ∨ cmd = p.cmdSetMouseBackend ∨ cmd = p.cmdSetUsbConnected) :
    arityOf p cmd = 1 := if_pos h

/-- The codes are distinct (R9 item 1), so none of these is one of arity 1. -/
theorem arityOf_eq_two (wf : p.WF) (h : cmd = p.cmdKeyEvent ∨ cmd = p.cmdMouseButtonEvent ∨ cmd = p.cmdMouseRelativeMove ∨
    cmd = p.cmdMouseWheel) : arityOf p cmd = 2 := by
  have distinct := Laws.RoundTrip.distinct_codes wf
  simp only [Params.commandCodes, List.nodup_cons, List.mem_cons, not_or] at distinct
  obtain rfl | rfl | rfl | rfl := h <;> simp [arityOf, distinct, eq_comm]

theorem arityOf_mouseAbsoluteMove (wf : p.WF) : arityOf p p.cmdMouseAbsoluteMove = 4 := by
  have distinct := Laws.RoundTrip.distinct_codes wf
  simp only [Params.commandCodes, List.nodup_cons, List.mem_cons, not_or] at distinct
  simp [arityOf, distinct, eq_comm]

end

/-- R97: in each branch of the selection the rule reads payload bytes below the arity only. -/
theorem runCommand_congr {s : State} (wf : s.cfg.WF) {cmd p0 p1 p2 p3 q0 q1 q2 q3 : Byte}
    (first : 0 < arityOf s.cfg cmd → p0 = q0) (second : 1 < arityOf s.cfg cmd → p1 = q1)
    (third : 2 < arityOf s.cfg cmd → p2 = q2) (fourth : 3 < arityOf s.cfg cmd → p3 = q3) :
    runCommand cmd p0 p1 p2 p3 s = runCommand cmd q0 q1 q2 q3 s := by
  have one (h : cmd = s.cfg.cmdSetKeyboardBackend ∨ cmd = s.cfg.cmdSetMouseBackend ∨ cmd = s.cfg.cmdSetUsbConnected) :
      p0 = q0 := first (by simp [arityOf_eq_one h])
  have two (h : cmd = s.cfg.cmdKeyEvent ∨ cmd = s.cfg.cmdMouseButtonEvent ∨ cmd = s.cfg.cmdMouseRelativeMove ∨
      cmd = s.cfg.cmdMouseWheel) : p0 = q0 ∧ p1 = q1 := by
    rw [arityOf_eq_two wf h] at first second
    exact ⟨first (by decide), second (by decide)⟩
  have four (h : cmd = s.cfg.cmdMouseAbsoluteMove) : p0 = q0 ∧ p1 = q1 ∧ p2 = q2 ∧ p3 = q3 := by
    rw [h, arityOf_mouseAbsoluteMove wf] at first second third fourth
    exact ⟨first (by decide), second (by decide), third (by decide), fourth (by decide)⟩
  refine ite_congr rfl (fun _ => rfl) fun _ => ite_congr rfl (fun h => ?setKeyboardBackend) fun _ =>
    ite_congr rfl (fun h => ?setMouseBackend) fun _ => ite_congr rfl (fun h => ?setUsbConnected) fun _ =>
    ite_congr rfl (fun _ => rfl) fun _ => ite_congr rfl (fun h => ?keyEvent) fun _ =>
    ite_congr rfl (fun h => ?mouseButtonEvent) fun _ => ite_congr rfl (fun h => ?mouseAbsoluteMove) fun _ =>
    ite_congr rfl (fun h => ?mouseRelativeMove) fun _ => ite_congr rfl (fun h => ?mouseWheel) fun _ => rfl
  case setKeyboardBackend => rw [one (.inl h)]
  case setMouseBackend => rw [one (.inr (.inl h))]
  case setUsbConnected => rw [one (.inr (.inr h))]
  case keyEvent =>
    obtain ⟨rfl, rfl⟩ := two (.inl h)
    rfl
  case mouseButtonEvent =>
    obtain ⟨rfl, rfl⟩ := two (.inr (.inl h))
    rfl
  case mouseAbsoluteMove =>
    obtain ⟨rfl, rfl, rfl, rfl⟩ := four h
    rfl
  case mouseRelativeMove =>
    obtain ⟨rfl, rfl⟩ := two (.inr (.inr (.inl h)))
    rfl
  case mouseWheel => rw [(two (.inr (.inr (.inr h)))).2]

/-- Settles O29: the two frames select the same rule, which answers alike. -/
theorem payloadBeyondTheArityIsIgnored : Obligations.PayloadBeyondTheArityIsIgnored := by
  intro s f g wf goodF goodG magic command payload
  have same : runCommand f.b1 f.b2 f.b3 f.b4 f.b5 s = runCommand f.b1 g.b2 g.b3 g.b4 g.b5 s :=
    runCommand_congr wf (payload 0) (payload 1) (payload 2) (payload 3)
  rw [exec_decodeFrame s goodF, exec_decodeFrame s goodG, ← magic, ← command, State.answer, State.answer, same]

end Sys2Proof.Machine
end

section
/-! The CRC engine: the single steps compose to `CRC16.BYTE` and `CRC16.BLOCK`, and one step of the register loses nothing, so that
two inputs which differ in one byte leave different words (40_crc16.md R131 to R139). -/

namespace Sys2Proof

/-! ### The register step is injective -/

/-- The top bit of the polynomial is 1 and a shift leaves 0 there, so a step records the bit that it shifts out. -/
theorem crcBit_getLsbD_15 (c : Word) : (crcBit c).getLsbD 15 = c.getLsbD 0 := by
  have shifted : (c >>> 1).getLsbD 15 = false := by simp
  have top : crcPoly.getLsbD 15 = true := rfl
  unfold crcBit
  split
  · next low => rw [BitVec.getLsbD_xor, shifted, top, low]; rfl
  · next low => rw [shifted, Bool.eq_false_of_not_eq_true low]

/-- The low bit and the shifted word together are the whole word. -/
theorem eq_of_low_of_shift {c d : Word} (low : c.getLsbD 0 = d.getLsbD 0) (shift : c >>> 1 = d >>> 1) : c = d := by
  apply BitVec.eq_of_getLsbD_eq
  intro i _
  cases i with
  | zero => exact low
  | succ i => simpa [Nat.add_comm 1 i] using congrArg (·.getLsbD i) shift

theorem crcBit_injective : Function.Injective crcBit := by
  intro c d h
  have low : c.getLsbD 0 = d.getLsbD 0 := by
    rw [← crcBit_getLsbD_15, ← crcBit_getLsbD_15, h]
  refine eq_of_low_of_shift low ?shift
  unfold crcBit at h
  rw [low] at h
  split at h
  · exact (BitVec.xor_left_inj _).mp h
  · exact h

/-- R133: eight steps from the register with the byte entered. -/
theorem crcByte_eq_iterate (c : Word) (b : Byte) : crcByte c b = crcBit^[8] (c ^^^ zext16 b) := rfl

theorem crcByte_left_injective (b : Byte) : Function.Injective (crcByte · b) := fun _ _ h =>
  (BitVec.xor_left_inj _).mp (crcBit_injective.iterate 8 h)

theorem crcByte_right_injective (c : Word) : Function.Injective (crcByte c) := by
  intro a b h
  have entered : zext16 a = zext16 b := (BitVec.xor_right_inj _).mp (crcBit_injective.iterate 8 h)
  simpa [zext16] using congrArg (·.setWidth 8) entered

/-! ### Replacing one byte (R139) -/

theorem foldl_crcByte_injective (data : List Byte) : Function.Injective (data.foldl crcByte) := by
  induction data with
  | nil => exact fun _ _ h => h
  | cons b data ih => exact ih.comp (crcByte_left_injective b)

/-- Where one byte is replaced and the register ends the same, the byte was the same. -/
theorem foldl_crcByte_set {data : List Byte} {k : Nat} {b : Byte} {c : Word} (inside : k < data.length)
    (same : (data.set k b).foldl crcByte c = data.foldl crcByte c) : b = data[k] := by
  induction data generalizing k c with
  | nil => cases inside
  | cons a data ih =>
    cases k with
    | zero => exact crcByte_right_injective c (foldl_crcByte_injective data same)
    | succ k => exact ih (Nat.lt_of_succ_lt_succ inside) same

theorem Frame.six_set_toList (f : Frame) (k : Nat) (b : Byte) : (f.set k b).six.toList = f.six.toList.set k b :=
  match k with
  | 0 | 1 | 2 | 3 | 4 | 5 | 6 | 7 | _ + 8 => rfl

theorem Frame.six_toList_getElem (f : Frame) {k : Nat} (h : k < f.six.toList.length) : f.six.toList[k] = f.get k :=
  match k, h with
  | 0, _ | 1, _ | 2, _ | 3, _ | 4, _ | 5, _ => rfl

/-- The CRC does not cover the bytes that store it. -/
theorem Frame.six_set_stored (f : Frame) {k : Nat} (stored : 6 ≤ k) (b : Byte) : (f.set k b).six = f.six :=
  match k, stored with
  | 6, _ | 7, _ | _ + 8, _ => rfl

/-- A covered byte is determined by the others and the stored CRC. -/
theorem get_of_crcCheck_set_covered {f : Frame} {k : Nat} {b : Byte} (covered : k < 6) (good : crcCheck f = true)
    (replaced : crcCheck (f.set k b) = true) : b = f.get k := by
  have b6 : (f.set k b).b6 = f.b6 := f.get_set_ne (j := 6) (by omega) b
  have b7 : (f.set k b).b7 = f.b7 := f.get_set_ne (j := 7) (by omega) b
  have same : crcSix (f.set k b).six = crcSix f.six := by
    rw [crcCheck, beq_iff_eq] at good replaced
    rw [replaced, good, b6, b7]
  rw [crcSix, Frame.six_set_toList] at same
  exact (foldl_crcByte_set covered same).trans (f.six_toList_getElem covered)

/-- A byte of the stored CRC is determined by the covered bytes. -/
theorem get_of_crcCheck_set_stored {f : Frame} {k : Nat} {b : Byte} (stored : 6 ≤ k) (inUnit : k < 8)
    (good : crcCheck f = true) (replaced : crcCheck (f.set k b) = true) : b = f.get k := by
  have same : f.set k b = f := by
    rw [crcCheck_iff.mp replaced, f.six_set_stored stored, ← crcCheck_iff.mp good]
  rw [← f.get_set_same inUnit b, same]

/-- A valid unit with one byte replaced by a different one is invalid. -/
theorem crcCheck_set {f : Frame} {k : Nat} {b : Byte} (hk : k < 8) (good : crcCheck f = true) (ne : b ≠ f.get k) :
    crcCheck (f.set k b) = false := by
  refine Bool.eq_false_of_not_eq_true fun replaced => ne ?_
  by_cases covered : k < 6
  · exact get_of_crcCheck_set_covered covered good replaced
  · exact get_of_crcCheck_set_stored (Nat.le_of_not_lt covered) hk good replaced

theorem one_shiftLeft_ne_zero : ∀ j < 8, 1#8 <<< j ≠ 0#8 := by decide

theorem crcCheck_flipBit {f : Frame} {k j : Nat} (hk : k < 8) (hj : j < 8) (good : crcCheck f = true) :
    crcCheck (Machine.flipBit f k j) = false :=
  crcCheck_set hk good fun same => one_shiftLeft_ne_zero j hj (by simpa using same)

/-- R135 on the bytes themselves. -/
theorem crcCheck_eq_decide (f : Frame) :
    crcCheck f = decide (crcBlock [f.b0, f.b1, f.b2, f.b3, f.b4, f.b5] = f.b6 ++ f.b7) := rfl

end Sys2Proof

namespace Sys2Proof.Machine

/-! ### The rows of the CRC family (R131 to R136) -/

theorem exec_crc16Init (s : State) : exec .crc16Init s = .next { s with crc := crcSeed } := rfl

theorem exec_crc16Bit (s : State) : exec .crc16Bit s = .next { s with crc := crcBit s.crc } := rfl

theorem exec_crc16Byte (b : Byte) (s : State) : exec (.crc16Byte b) s = .next { s with crc := crcByte s.crc b } := rfl

theorem exec_crc16Block (data : List Byte) (s : State) :
    exec (.crc16Block data) s = .next { s with crc := crcBlock data, result := .word (crcBlock data) } := rfl

theorem exec_crc16Check (f : Frame) (s : State) :
    exec (.crc16Check f) s = .next { s with crc := crcSix f.six, result := .bool (crcCheck f) } := rfl

theorem exec_crc16Append (h : Six) (s : State) :
    exec (.crc16Append h) s = .next { s with crc := crcSix h, result := .frame (crcAppend h) } := rfl

/-! ### Runs of single steps -/

theorem execAll_replicate_crc16Bit (n : Nat) (s : State) :
    execAll (List.replicate n .crc16Bit) s = .next { s with crc := crcBit^[n] s.crc } := by
  induction n generalizing s with
  | zero => rfl
  | succ n ih => rw [List.replicate_succ, execAll_cons _ _ _ (exec_crc16Bit s), ih, Function.iterate_succ_apply]

theorem execAll_map_crc16Byte (data : List Byte) (s : State) :
    execAll (data.map .crc16Byte) s = .next { s with crc := data.foldl crcByte s.crc } := by
  induction data generalizing s with
  | nil => rfl
  | cons b data ih => rw [List.map_cons, execAll_cons _ _ _ (exec_crc16Byte b s), ih, List.foldl_cons]

/-- Settles O1: `CRC16.BYTE` by `execAll_replicate_crc16Bit` at eight steps. -/
theorem crcSingleSteps : Obligations.CrcSingleSteps := by
  intro s b
  refine ⟨exec_crc16Init s, exec_crc16Bit s, ?byte, _, exec_crc16Byte b s⟩
  rw [exec_crc16Byte, execAll_replicate_crc16Bit, crcByte_eq_iterate, zext16]

/-- Settles O2: the bytes run from the seed that `CRC16.INIT` loads. -/
theorem crcBlockRunsByteByByte : Obligations.CrcBlockRunsByteByByte := by
  intro data s
  refine ⟨crcBlock data, exec_crc16Block data s, ?run⟩
  rw [execAll_cons _ _ _ (exec_crc16Init s), execAll_map_crc16Byte, crcBlock]

/-- Settles O3: the check by `crcCheck_eq_decide`; the append is `CRC16.APPEND`'s own bytes. -/
theorem crcCheckAndAppend : Obligations.CrcCheckAndAppend := by
  intro s f h
  refine ⟨?check, exec_crc16Append h s⟩
  rw [exec_crc16Check, crcCheck_eq_decide]
  rfl

/-- Settles O4: an appended frame passes, and `crcCheck_flipBit` refuses each flip of it. -/
theorem singleBitErrorsAreDetected : Obligations.SingleBitErrorsAreDetected := by
  intro s h f t run answer
  rw [exec_crc16Append] at run
  cases run
  cases answer
  have good : crcCheck (crcAppend h) = true := crcCheck_crcAppend h
  refine ⟨⟨_, exec_crc16Check _ s, congrArg Result.bool good⟩, fun k j hk hj => ?flipped⟩
  exact ⟨_, exec_crc16Check _ s, congrArg Result.bool (crcCheck_flipBit hk hj good)⟩

end Sys2Proof.Machine
end

section
/-! The rows of the frame path (41_frame_codec.md), each by the condition that enables it, and the rows of the other families where
nothing enables them. -/

namespace Sys2Proof.Machine

section
variable {s : State}

/-! ### Receiving -/

theorem exec_frameRxbyte_stores (serial : s.cfg.transport = .serial) (room : s.rxIdx < 8) (b : Byte) :
    exec (.frameRxbyte b) s = .next { s with
      rxBuf := s.rxBuf.set s.rxIdx b, rxIdx := s.rxIdx + 1, env := { s.env with timeoutElapsed := false } } :=
  congrArg Host.Outcome.next ((if_pos serial).trans (if_pos room))

theorem exec_frameRxbyte_drops (serial : s.cfg.transport = .serial) (full : 8 ≤ s.rxIdx) (b : Byte) :
    exec (.frameRxbyte b) s = .next { s with rxOverrunFrame := true } :=
  congrArg Host.Outcome.next ((if_pos serial).trans (if_neg (Nat.not_lt.mpr full)))

theorem exec_frameRxbyte_of_spi (spi : s.cfg.transport = .spi) (b : Byte) : exec (.frameRxbyte b) s = .next s :=
  congrArg Host.Outcome.next (if_neg (by simp [spi]))

theorem exec_frameTake (full : s.rxIdx = 8) (idle : s.disp = .idle) : exec .frameTake s = .next { s with
    crc := crcSix s.rxBuf.six, rxIdx := 0, req := some (decodeRequest s.cfg s.rxBuf), disp := .dispatching } :=
  congrArg Host.Outcome.next (if_pos ⟨full, idle⟩)

theorem exec_frameTake_of_not (h : ¬(s.rxIdx = 8 ∧ s.disp = .idle)) : exec .frameTake s = .next s :=
  congrArg Host.Outcome.next (if_neg h)

/-- R153's condition. -/
def State.timesOut (s : State) : Prop :=
  s.cfg.transport = .serial ∧ 0 < s.rxIdx ∧ s.rxIdx < 8 ∧ s.disp = .idle ∧ s.env.timeoutElapsed = true

theorem exec_frameTimeout (h : s.timesOut) :
    exec .frameTimeout s = .next { s with rxIdx := 0, req := some .timeout, disp := .dispatching } :=
  congrArg Host.Outcome.next (if_pos h)

theorem exec_frameTimeout_of_not (h : ¬s.timesOut) : exec .frameTimeout s = .next s :=
  congrArg Host.Outcome.next (if_neg h)

/-! ### Decoding and encoding -/

theorem exec_frameDecode (f : Frame) (s : State) :
    exec (.frameDecode f) s = .next { s with crc := crcSix f.six, result := .req (decodeRequest s.cfg f) } := rfl

theorem exec_frameEncode (status backend caps : Byte) (s : State) :
    exec (.frameEncode status backend caps) s = .next { s with
      crc := crcSix (responseSix s.cfg status backend caps)
      result := .frame (crcAppend (responseSix s.cfg status backend caps)) } := rfl

/-! ### Dispatching -/

theorem exec_dispatch {r : Req} (dispatching : s.disp = .dispatching) (latch : s.req = some r) :
    exec .dispatch s = .next (s.dispatchReq r) := by
  simp only [exec, execDispatch, if_pos dispatching, latch]

theorem exec_dispatch_of_not (h : s.disp ≠ .dispatching) : exec .dispatch s = .next s :=
  congrArg Host.Outcome.next (if_neg h)

/-! ### Emitting -/

theorem emission_of_lastValid (valid : s.lastValid = true) : s.emission = s.lastResp := if_pos valid

theorem drawsAfter_of_lastValid (valid : s.lastValid = true) : s.drawsAfter = s.draws := if_pos valid

theorem exec_frameEmit_serial (responding : s.disp = .responding) (serial : s.cfg.transport = .serial) :
    exec .frameEmit s = .next { s with
      out := s.out ++ [.txFrame s.emission], disp := .idle, draws := s.drawsAfter } := by
  simp only [exec, execFrameEmit, if_pos responding, serial, State.leaveOutcome]

theorem exec_frameEmit_spi (responding : s.disp = .responding) (spi : s.cfg.transport = .spi) (free : s.spiOut.b0 = 0#8) :
    exec .frameEmit s = .next { s with
      spiOut := s.emission, spiOidx := 0, disp := .idle, draws := s.drawsAfter } := by
  simp only [exec, execFrameEmit, if_pos responding, spi, if_pos free, State.leaveOutcome]

/-- R160: the earlier response is still being shifted out. -/
theorem exec_frameEmit_of_spi_busy (spi : s.cfg.transport = .spi) (busy : s.spiOut.b0 ≠ 0#8) :
    exec .frameEmit s = .next s := by
  simp only [exec, execFrameEmit, spi, if_neg busy, ite_self]

theorem exec_frameEmit_of_not (h : s.disp ≠ .responding) : exec .frameEmit s = .next s :=
  congrArg Host.Outcome.next (if_neg h)

/-! ### Exchanging on SPI -/

theorem exec_spiExchange_of_ready (spi : s.cfg.transport = .spi) (ready : s.spiOut.b0 ≠ 0#8) (more : s.spiOidx ≠ 7)
    (b : Byte) : exec (.spiExchange b) s = .next { s with
      out := s.out ++ [.spiOut (s.spiOut.get s.spiOidx.val)], spiOidx := s.spiOidx + 1 } :=
  congrArg Host.Outcome.next ((if_pos spi).trans ((if_pos ready).trans (if_neg more)))

theorem exec_spiExchange_of_last (spi : s.cfg.transport = .spi) (ready : s.spiOut.b0 ≠ 0#8) (last : s.spiOidx = 7)
    (b : Byte) : exec (.spiExchange b) s = .next { s with
      out := s.out ++ [.spiOut s.spiOut.b7], spiOidx := 0, spiOut := { s.spiOut with b0 := 0#8 } } := by
  have b7 : s.spiOut.get s.spiOidx.val = s.spiOut.b7 := by rw [last]; rfl
  rw [← b7]
  exact congrArg Host.Outcome.next ((if_pos spi).trans ((if_pos ready).trans (if_pos last)))

/-- With no response ready, 0x00 goes out and the input goes to the receiving half (R166). -/
theorem exec_spiExchange_of_not_ready (spi : s.cfg.transport = .spi) (free : s.spiOut.b0 = 0#8) (b : Byte) :
    exec (.spiExchange b) s = .next { s.spiReceive b with out := s.out ++ [.spiOut 0#8] } :=
  congrArg Host.Outcome.next ((if_pos spi).trans (if_neg (not_not.mpr free)))

theorem exec_spiExchange_of_serial (serial : s.cfg.transport = .serial) (b : Byte) : exec (.spiExchange b) s = .next s :=
  congrArg Host.Outcome.next (if_neg (by simp [serial]))

theorem spiReceive_stores {b : Byte} (room : s.rxIdx < 8) (data : s.rxIdx ≠ 0 ∨ b ≠ 0#8) :
    s.spiReceive b = { s with rxBuf := s.rxBuf.set s.rxIdx b, rxIdx := s.rxIdx + 1 } :=
  if_pos ⟨room, not_and_or.mpr data⟩

theorem spiReceive_ignores {b : Byte} (h : 8 ≤ s.rxIdx ∨ (s.rxIdx = 0 ∧ b = 0#8)) : s.spiReceive b = s :=
  if_neg fun ⟨room, data⟩ => h.elim (Nat.not_le.mpr room) data

/-! ### The PS/2 rows where nothing enables them -/

variable {ch : Chan}

theorem exec_ps2Take_of_empty (empty : (s.chan ch).rxLatch = none) : exec (.ps2Take ch) s = .next s := by
  simp only [exec, execPs2Take, empty]

theorem exec_kbdHostbyte_of_empty (empty : s.kbd.rxLatch = none) : exec .kbdHostbyte s = .next s := by
  simp only [exec, execKbdHostbyte, empty]

theorem exec_ps2Txframe_of_empty (empty : (s.chan ch).txq = []) : exec (.ps2Txframe ch) s = .next s := by
  simp only [exec, execPs2Txframe, empty, ite_self]

theorem exec_ps2Sample_of_unserviced (off : s.serviced ch = false) : exec (.ps2Sample ch) s = .next s :=
  congrArg Host.Outcome.next (if_neg (by simp [off]))

/-- The byte-level steps run on a serviced channel at rest (R233, R257). -/
theorem exec_ps2Rxframe_of_not (h : (s.serviced ch && (s.chan ch).atRest) = false) (w : BitVec 11) :
    exec (.ps2Rxframe ch w) s = .next s :=
  congrArg Host.Outcome.next (if_neg (by simp [h]))

theorem exec_ps2Txframe_of_not (h : (s.serviced ch && (s.chan ch).atRest) = false) : exec (.ps2Txframe ch) s = .next s :=
  congrArg Host.Outcome.next (if_neg (by simp [h]))

end

/-- Settles O6: the two clauses are the two branches of R151. -/
theorem rxByteStoresOrDrops : Obligations.RxByteStoresOrDrops := by
  intro s b serial
  exact ⟨fun room => ⟨false, exec_frameRxbyte_stores serial room b⟩, fun full => exec_frameRxbyte_drops serial full b⟩

/-- Settles O7, with the decoded request written out by `decodeRequest_eq`. -/
theorem takeLatchesTheRequest : Obligations.TakeLatchesTheRequest := by
  intro s full idle
  rw [exec_frameTake full idle, decodeRequest_eq]
  rfl

/-- Settles O8. -/
theorem timeoutDiscardsThePartialRequest : Obligations.TimeoutDiscardsThePartialRequest :=
  fun _ serial started partly idle elapsed => exec_frameTimeout ⟨serial, started, partly, idle, elapsed⟩

/-- Settles O9: each row where its own condition fails; an unserviced channel and one with a frame under way both fail the
condition of the byte-level steps. -/
theorem stepsNotEnabledChangeNothing : Obligations.StepsNotEnabledChangeNothing := by
  intro s ch b w
  refine ⟨exec_frameTake_of_not, exec_frameTimeout_of_not, exec_dispatch_of_not, exec_frameEmit_of_not,
    fun spi => exec_frameRxbyte_of_spi spi b, fun serial => exec_spiExchange_of_serial serial b, exec_ps2Take_of_empty,
    exec_kbdHostbyte_of_empty, exec_ps2Txframe_of_empty, fun off => ?unserviced, fun busy => ?underWay⟩
  case unserviced =>
    have shut : (s.serviced ch && (s.chan ch).atRest) = false := by simp [off]
    exact ⟨exec_ps2Sample_of_unserviced off, exec_ps2Rxframe_of_not shut w, exec_ps2Txframe_of_not shut⟩
  case underWay =>
    have moving : (s.chan ch).atRest = false := Bool.eq_false_of_not_eq_true (mt (Channel.atRest_iff _).mp busy)
    have shut : (s.serviced ch && (s.chan ch).atRest) = false := by simp [moving]
    exact ⟨exec_ps2Rxframe_of_not shut w, exec_ps2Txframe_of_not shut⟩

/-- Settles O10: the decoded request by `decodeRequest_eq`; the encoded frame is `CRC16.APPEND` of R159's six bytes. -/
theorem decodeAndEncodeFrames : Obligations.DecodeAndEncodeFrames := by
  intro s f status backend caps
  refine ⟨?decode, exec_frameEncode status backend caps s⟩
  rw [exec_frameDecode, decodeRequest_eq]
  rfl

/-- Settles O30: on each transport the emission is the cache once anything was composed, and a free frame before. -/
theorem emitSendsTheCache : Obligations.EmitSendsTheCache := by
  intro s responding
  refine ⟨fun serial valid => ?serialCache, fun serial _ => ⟨_, _, exec_frameEmit_serial responding serial⟩,
    fun spi free valid => ?spiCache, fun spi free _ => ⟨_, _, exec_frameEmit_spi responding spi free⟩,
    fun spi busy => exec_frameEmit_of_spi_busy spi busy⟩
  case serialCache =>
    rw [exec_frameEmit_serial responding serial, emission_of_lastValid valid, drawsAfter_of_lastValid valid]
  case spiCache =>
    rw [exec_frameEmit_spi responding spi free, emission_of_lastValid valid, drawsAfter_of_lastValid valid]

/-- Settles O31: the last two clauses differ in what the receiving half does with the input. -/
theorem spiExchangesOneByte : Obligations.SpiExchangesOneByte := by
  intro s b spi
  refine ⟨fun ready more => exec_spiExchange_of_ready spi ready more b,
    fun ready last => exec_spiExchange_of_last spi ready last b, fun free room data => ?stores, fun free ignored => ?ignores⟩
  case stores => rw [exec_spiExchange_of_not_ready spi free, spiReceive_stores room data]
  case ignores => rw [exec_spiExchange_of_not_ready spi free, spiReceive_ignores ignored]

end Sys2Proof.Machine
end

section
/-! Decoding loses nothing (30_encoding.md R107, R110; 41_frame_codec.md R156): each branch of the decoder gives a well-formed row
of its place whose encoding is the bytes that were read. -/

namespace Sys2Proof

/-! ### Requests -/

/-- `i` is a well-formed row whose request frame is `f`. -/
def EncodesFrame (p : Params) (f : Frame) (i : Instr) : Prop := i.frame? p = some f ∧ i.wf p = true

/-- R96, R180: the branch taken on a command code gives the row of that code; past the eleven codes, the command byte is none of
them. -/
theorem decodeCommand_encodesFrame (p : Params) (m cmd p0 p1 p2 p3 : Byte) :
    EncodesFrame p (requestFrame m cmd p0 p1 p2 p3) (decodeCommand p m cmd p0 p1 p2 p3) := by
  have named {code : Byte} {i : Instr} (row : EncodesFrame p (requestFrame m code p0 p1 p2 p3) i) (h : cmd = code) :
      EncodesFrame p (requestFrame m cmd p0 p1 p2 p3) i := h ▸ row
  refine iteInduction (named ⟨rfl, rfl⟩) fun notPing => iteInduction (named ⟨rfl, rfl⟩) fun notSetKeyboardBackend =>
    iteInduction (named ⟨rfl, rfl⟩) fun notSetMouseBackend => iteInduction (named ⟨rfl, rfl⟩) fun notSetUsbConnected =>
    iteInduction (named ⟨rfl, rfl⟩) fun notClearAll => iteInduction (named ⟨rfl, rfl⟩) fun notKeyEvent =>
    iteInduction (named ⟨rfl, rfl⟩) fun notMouseButtonEvent => iteInduction (named ⟨rfl, rfl⟩) fun notMouseAbsoluteMove =>
    iteInduction (named ⟨rfl, rfl⟩) fun notMouseRelativeMove => iteInduction (named ⟨rfl, rfl⟩) fun notMouseWheel =>
    iteInduction (named ⟨rfl, rfl⟩) fun notRepeatLast => ⟨rfl, ?unrecognised⟩
  simp [Instr.wf, Params.commandCodes, *]

/-- R110: a frame that fails the check is kept whole as an operand. -/
theorem decodeFrame_encodesFrame (p : Params) (f : Frame) : EncodesFrame p f (decodeFrame p f) := by
  unfold decodeFrame
  split
  · next good =>
    have row := decodeCommand_encodesFrame p f.b0 f.b1 f.b2 f.b3 f.b4 f.b5
    rwa [show requestFrame f.b0 f.b1 f.b2 f.b3 f.b4 f.b5 = f from crcAppend_of_check good] at row
  · next bad => exact ⟨rfl, by simp [Instr.wf, bad]⟩

/-! ### Host bytes -/

/-- `i` is a well-formed row whose host byte is `b`, read while a parameter byte is or is not awaited. -/
def EncodesHostByte (p : Params) (pending : Bool) (b : Byte) (i : Instr) : Prop :=
  i.frame? p = none ∧ i.hostByte? = some b ∧ i.awaited = pending ∧ i.wf p = true

/-- R107, R280: a parameter byte first, then the nine named bytes; past those, the byte has no name. -/
theorem decodeHostByte_encodesHostByte (p : Params) (pending : Bool) (b : Byte) :
    EncodesHostByte p pending b (decodeHostByte pending b) := by
  cases pending with
  | true => exact ⟨rfl, rfl, rfl, rfl⟩
  | false =>
    have named {code : Byte} {i : Instr} (row : EncodesHostByte p false code i) (h : b = code) :
        EncodesHostByte p false b i := h ▸ row
    refine iteInduction nofun fun _ =>
      iteInduction (named ⟨rfl, rfl, rfl, rfl⟩) fun notReset => iteInduction (named ⟨rfl, rfl, rfl, rfl⟩) fun notResend =>
      iteInduction (named ⟨rfl, rfl, rfl, rfl⟩) fun notEcho => iteInduction (named ⟨rfl, rfl, rfl, rfl⟩) fun notIdentify =>
      iteInduction (named ⟨rfl, rfl, rfl, rfl⟩) fun notSetLeds => iteInduction (named ⟨rfl, rfl, rfl, rfl⟩) fun notSetTypematic =>
      iteInduction (named ⟨rfl, rfl, rfl, rfl⟩) fun notEnableScanning => iteInduction (named ⟨rfl, rfl, rfl, rfl⟩) fun notDisable =>
      iteInduction (named ⟨rfl, rfl, rfl, rfl⟩) fun notDefault => ⟨rfl, rfl, rfl, ?anyOther⟩
    simp [Instr.wf, namedHostBytes, *]

/-! ### Either place -/

theorem Frame.exists_toList {bs : List Byte} (h : bs.length = 8) : ∃ f : Frame, f.toList = bs :=
  match bs, h with
  | [b0, b1, b2, b3, b4, b5, b6, b7], _ => ⟨⟨b0, b1, b2, b3, b4, b5, b6, b7⟩, rfl⟩

/-- The only two ways in which bytes decode (R90, R94). -/
theorem decode_eq_ok {p : Params} {src : Source} {bs : List Byte} {i : Instr} (h : decode p src bs = .ok i) :
    (∃ f : Frame, src = .request ∧ bs = f.toList ∧ i = decodeFrame p f) ∨
    ∃ pending b, src = .keyboard pending ∧ bs = [b] ∧ i = decodeHostByte pending b := by
  unfold decode at h
  split at h <;> cases h
  · exact .inl ⟨_, rfl, rfl, rfl⟩
  · exact .inr ⟨_, _, rfl, rfl, rfl⟩

theorem EncodesFrame.encode {p : Params} {f : Frame} {i : Instr} (h : EncodesFrame p f i) :
    encode p i = some f.toList ∧ i.wf p = true ∧ i.source? p = some .request := by
  obtain ⟨frame, wf⟩ := h
  exact ⟨by simp [Sys2Proof.encode, frame], wf, by simp [Instr.source?, frame]⟩

theorem EncodesHostByte.encode {p : Params} {pending : Bool} {b : Byte} {i : Instr} (h : EncodesHostByte p pending b i) :
    encode p i = some [b] ∧ i.wf p = true ∧ i.source? p = some (.keyboard pending) := by
  obtain ⟨noFrame, byte, awaited, wf⟩ := h
  exact ⟨by simp [Sys2Proof.encode, noFrame, byte], wf, by simp [Instr.source?, noFrame, byte, awaited]⟩

/-- Settles O12: eight bytes are a frame; what decodes at either place is a row that encodes what was read. -/
theorem decodingIsTotalAndLossless : Obligations.DecodingIsTotalAndLossless := by
  intro p
  refine ⟨fun bs eight => ?request, fun pending b => ⟨decodeHostByte pending b, rfl⟩, fun src bs i decoded => ?lossless⟩
  case request =>
    obtain ⟨f, rfl⟩ := Frame.exists_toList eight
    exact ⟨decodeFrame p f, Laws.RoundTrip.decode_toList p f⟩
  case lossless =>
    obtain ⟨f, rfl, rfl, rfl⟩ | ⟨pending, b, rfl, rfl, rfl⟩ := decode_eq_ok decoded
    · exact (decodeFrame_encodesFrame p f).encode
    · exact (decodeHostByte_encodesHostByte p pending b).encode

end Sys2Proof
end

section
/-! `DISPATCH` (41_frame_codec.md R157): it runs the row that the taken bytes decode to, and whatever the request, what it leaves
behind is a response to emit after the driver calls it made. -/

namespace Sys2Proof.Machine

/-! ### What a command's rule leaves of the frame path -/

/-- `t` is `s` after some driver calls and what a command's rule may write; the frame path and the cache are as they were. -/
structure OnlyCalls (s t : State) : Prop where
  calls : ∃ calls : List Call, t.out = s.out ++ calls.map .call
  cfg : t.cfg = s.cfg
  rxIdx : t.rxIdx = s.rxIdx
  lastResp : t.lastResp = s.lastResp
  lastValid : t.lastValid = s.lastValid
  loop : t.loop = s.loop

theorem OnlyCalls.refl (s : State) : OnlyCalls s s := ⟨⟨[], by simp⟩, rfl, rfl, rfl, rfl, rfl⟩

theorem OnlyCalls.call (s : State) (c : Call) : OnlyCalls s (s.call c) := ⟨⟨[c], rfl⟩, rfl, rfl, rfl, rfl, rfl⟩

theorem OnlyCalls.ruleSetBackend (s : State) (mask bits : Byte) : OnlyCalls s (ruleSetBackend mask bits s).1 := by
  unfold Machine.ruleSetBackend
  split
  · exact ⟨⟨[], by simp⟩, by simp, by simp, by simp, by simp, by simp⟩
  · exact .refl s

theorem OnlyCalls.ruleSetUsbConnected (s : State) (flag : Byte) : OnlyCalls s (ruleSetUsbConnected flag s).1 := by
  unfold Machine.ruleSetUsbConnected
  split
  · exact { OnlyCalls.call s (.setVbusConnected (flagOf flag)) with }
  · exact .refl s

/-- R180 to R192. -/
theorem OnlyCalls.runCommand (s : State) (cmd p0 p1 p2 p3 : Byte) : OnlyCalls s (runCommand cmd p0 p1 p2 p3 s).1 :=
  runCommand_induction (P := fun r => OnlyCalls s r.1)
    (ping := .refl s)
    (setBackend := fun mask => .ruleSetBackend s mask p0)
    (setUsbConnected := .ruleSetUsbConnected s p0)
    (clearAll := ⟨⟨[.kbdClear, .mouseClear], by simp [ruleClearAll]⟩, rfl, rfl, rfl, rfl, rfl⟩)
    (keyEvent := ⟨⟨[.sendKey p0 (pressedOf p1)], s.sendKey_out _ _⟩, s.sendKey_cfg _ _, s.sendKey_rxIdx _ _,
      s.sendKey_lastResp _ _, s.sendKey_lastValid _ _, s.sendKey_loop _ _⟩)
    (buttons := .call s _)
    (absoluteMove := .call s _)
    (relativeMove := .call s _)
    (wheel := .call s _)
    (repeatLast := .refl s)
    (unrecognised := .refl s)

/-! ### What `DISPATCH` leaves -/

/-- R222: the cache, once filled, passes the check. -/
def State.CacheChecks (s : State) : Prop := s.lastValid = true → crcCheck s.lastResp = true

theorem State.CacheChecks.enterOutcome {s : State} (h : s.CacheChecks) (st : Byte) : (s.enterOutcome st).CacheChecks := by
  by_cases repeats : st = 0#8
  · subst repeats
    exact h
  · intro _
    simp [respond_compose s repeats]

/-- `t` is the state in which the request that `s` dispatches has had its outcome. -/
structure DispatchLeaves (s t : State) : Prop where
  calls : ∃ calls : List Call, t.out = s.out ++ calls.map .call
  cfg : t.cfg = s.cfg
  rxIdx : t.rxIdx = s.rxIdx
  loop : t.loop = s.loop
  req : t.req = none
  disp : t.disp = .responding
  cache : s.CacheChecks → t.CacheChecks

theorem OnlyCalls.enterOutcome {s t : State} (h : OnlyCalls s t) (st : Byte) : DispatchLeaves s (t.enterOutcome st) where
  calls := by simpa using h.calls
  cfg := (t.enterOutcome_cfg st).trans h.cfg
  rxIdx := (t.enterOutcome_rxIdx st).trans h.rxIdx
  loop := (t.enterOutcome_loop st).trans h.loop
  req := t.enterOutcome_req st
  disp := t.enterOutcome_disp st
  cache checks := State.CacheChecks.enterOutcome (by rwa [State.CacheChecks, h.lastValid, h.lastResp]) st

theorem DispatchLeaves.answer (s : State) (magicOk : Bool) (rule : State → State × Byte) (h : OnlyCalls s (rule s).1) :
    DispatchLeaves s (s.answer magicOk rule) := by
  unfold State.answer
  split
  · exact (OnlyCalls.refl s).enterOutcome _
  · exact h.enterOutcome _

theorem DispatchLeaves.dispatchReq (s : State) (r : Req) : DispatchLeaves s (s.dispatchReq r) := by
  cases r with
  | ok magicOk cmd p0 p1 p2 p3 => exact .answer s magicOk _ (.runCommand s cmd p0 p1 p2 p3)
  | crcErr => exact (OnlyCalls.refl s).enterOutcome _
  | timeout => exact (OnlyCalls.refl s).enterOutcome _

/-! ### The decoded row -/

theorem exec_crcMismatch (f : Frame) (s : State) : exec (.crcMismatch f) s = .next s.answerCrcError := rfl

theorem decodeRequest_of_bad {p : Params} {f : Frame} (bad : crcCheck f = false) : decodeRequest p f = .crcErr :=
  if_neg (by simp [bad])

theorem decodeRequest_of_good {p : Params} {f : Frame} (good : crcCheck f = true) :
    decodeRequest p f = .ok (f.b0 == p.requestMagic) f.b1 f.b2 f.b3 f.b4 f.b5 := if_pos good

/-- R110, R180: the row of a frame does to any state what `DISPATCH` does with the decoded request. -/
theorem exec_decodeFrame_eq_dispatchReq (s : State) (f : Frame) :
    exec (decodeFrame s.cfg f) s = .next (s.dispatchReq (decodeRequest s.cfg f)) := by
  cases check : crcCheck f with
  | true =>
    rw [exec_decodeFrame s check, decodeRequest_of_good check]
    rfl
  | false =>
    have row : decodeFrame s.cfg f = .crcMismatch f := if_neg (by simp [check])
    rw [row, exec_crcMismatch, decodeRequest_of_bad check]
    rfl

/-- Settles O19: both answer `dispatchReq` of the decoded request. -/
theorem dispatchRunsTheDecodedRow : Obligations.DispatchRunsTheDecodedRow := by
  intro s f dispatching latch
  have outcome := DispatchLeaves.dispatchReq s (decodeRequest s.cfg f)
  exact ⟨_, exec_dispatch dispatching latch, exec_decodeFrame_eq_dispatchReq s f, outcome.req, outcome.disp⟩

/-- Settles O20: under R9 neither code is 0 or the OK status, so each is composed bare. -/
theorem errorOutcomesOnlyAnswer : Obligations.ErrorOutcomesOnlyAnswer := by
  intro s f wf
  have crcError : s.answerCrcError = s.answered s.cfg.stCrcError := enterOutcome_error s (stCrcError_ok wf)
  have timeout : s.answerTimeout = s.answered s.cfg.stTimeoutError := enterOutcome_error s (stTimeoutError_ok wf)
  refine ⟨?row, fun dispatching latch => ?crcErr, fun dispatching latch => ?timeout⟩
  case row => rw [exec_crcMismatch, crcError]
  case crcErr => rw [exec_dispatch dispatching latch, State.dispatchReq, crcError]
  case timeout => rw [exec_dispatch dispatching latch, State.dispatchReq, timeout]

/-! ### `MAIN` at `DISPATCH` (R373) -/

theorem step_of_main_dispatch {s : State} (main : s.nextEvent = .main) (place : s.loop = .dispatch) :
    step s = mapNext State.advance (exec .dispatch s.popEvent.settle) := by
  simp [step, main, runEvent, State.mainStep, State.loopInstr, place]

/-- Settles O14: the place's step is `DISPATCH`, which does what the decoded row does and leaves `MAIN`'s place to the loop. -/
theorem stepRunsTheRequest : Obligations.StepRunsTheRequest := by
  intro s f i main place dispatching latch decoded
  rw [Laws.RoundTrip.decode_toList] at decoded
  cases decoded
  let s' := s.popEvent.settle
  have runs : exec .dispatch s' = .next (s'.dispatchReq (decodeRequest s.cfg f)) := exec_dispatch dispatching latch
  have here : (s'.dispatchReq (decodeRequest s.cfg f)).loop = .dispatch := (DispatchLeaves.dispatchReq s' _).loop.trans place
  refine ⟨_, exec_decodeFrame_eq_dispatchReq s' f, ?_⟩
  rw [step_of_main_dispatch main place, runs, mapNext_next, State.advance, here, LoopPos.succ]
  rfl

end Sys2Proof.Machine
end

section
/-! Whole exchanges (41_frame_codec.md): eight bytes received in a row, eight bytes shifted out in a row, and the cycle from the
first byte of a request to its response (R161). -/

namespace Sys2Proof.Machine

/-! ### Eight SPI exchanges (R166) -/

/-- Induction on the inputs, as many as there are bytes left to shift out. -/
theorem execAll_spiExchange {s : State} (spi : s.cfg.transport = .spi) (ready : s.spiOut.b0 ≠ 0#8) {ins : List Byte}
    (left : s.spiOidx.val + ins.length = 8) : execAll (ins.map .spiExchange) s = .next { s with
      out := s.out ++ (s.spiOut.toList.drop s.spiOidx.val).map .spiOut
      spiOidx := 0
      spiOut := { s.spiOut with b0 := 0#8 } } := by
  induction ins generalizing s with
  | nil => exact absurd left s.spiOidx.isLt.ne
  | cons b ins ih =>
    rw [List.length_cons] at left
    rw [List.map_cons, drop_toList_eq_get_cons _ s.spiOidx.isLt, List.map_cons]
    by_cases last : s.spiOidx = 7
    · have seven : s.spiOidx.val = 7 := congrArg Fin.val last
      obtain rfl : ins = [] := List.eq_nil_of_length_eq_zero (by omega)
      rw [execAll_cons _ _ _ (exec_spiExchange_of_last spi ready last b), last]
      rfl
    · have next : (s.spiOidx + 1).val = s.spiOidx.val + 1 := (Fin.val_add_one s.spiOidx).trans (if_neg last)
      rw [execAll_cons _ _ _ (exec_spiExchange_of_ready spi ready last b)]
      refine (ih (by exact spi) (by exact ready) (by simp only [next]; omega)).trans ?_
      simp only [next, List.append_assoc, List.singleton_append]

/-- Settles O32: from index 0 all eight bytes are left. -/
theorem eightExchangesDeliverTheResponse : Obligations.EightExchangesDeliverTheResponse := by
  intro s ins spi ready first eight
  rw [execAll_spiExchange spi ready (by rw [first, eight]; rfl), first]
  rfl

/-! ### Eight bytes received (R151) -/

/-- Induction on the bytes: each goes to the place after the one before. -/
theorem execAll_frameRxbyte {s : State} (serial : s.cfg.transport = .serial) {bs : List Byte}
    (room : s.rxIdx + bs.length ≤ 8) : ∃ e, execAll (bs.map .frameRxbyte) s = .next { s with
      rxBuf := s.rxBuf.write s.rxIdx bs, rxIdx := s.rxIdx + bs.length, env := { s.env with timeoutElapsed := e } } := by
  induction bs generalizing s with
  | nil => exact ⟨s.env.timeoutElapsed, rfl⟩
  | cons b bs ih =>
    rw [List.length_cons] at room
    rw [List.map_cons, execAll_cons _ _ _ (exec_frameRxbyte_stores serial (by omega) b)]
    obtain ⟨e, run⟩ := ih (s := { s with
      rxBuf := s.rxBuf.set s.rxIdx b, rxIdx := s.rxIdx + 1, env := { s.env with timeoutElapsed := false } }) serial
      (by simp only; omega)
    refine ⟨e, run.trans ?_⟩
    simp only [Frame.write, List.length_cons, Nat.add_assoc, Nat.add_comm 1]

theorem write_toList (g f : Frame) : g.write 0 f.toList = f := by
  simp [Frame.toList, Frame.write, Frame.set]

/-! ### One request and its response -/

/-- The state in which the eight bytes `f` have been received and taken; `e` is what the timeout input has become. -/
def State.taken (s : State) (f : Frame) (e : Bool) : State := { s with
  rxBuf := f
  env := { s.env with timeoutElapsed := e }
  crc := crcSix f.six
  rxIdx := 0
  req := some (decodeRequest s.cfg f)
  disp := .dispatching }

theorem execAll_receive_take {s : State} (serial : s.cfg.transport = .serial) (empty : s.rxIdx = 0) (idle : s.disp = .idle)
    (f : Frame) (rest : List Instr) :
    ∃ e, execAll (f.toList.map .frameRxbyte ++ .frameTake :: rest) s = execAll rest (s.taken f e) := by
  obtain ⟨e, received⟩ := execAll_frameRxbyte serial (bs := f.toList) (s := s) (by simp [empty])
  rw [empty, write_toList] at received
  refine ⟨e, ?_⟩
  rw [execAll_append received]
  exact execAll_cons _ _ _ (exec_frameTake rfl idle)

/-- The state in which a response has been emitted on the serial transport. -/
def State.emitted (s : State) : State :=
  { s with out := s.out ++ [.txFrame s.emission], disp := .idle, draws := s.drawsAfter }

theorem execAll_dispatch_emit {s : State} {r : Req} (serial : s.cfg.transport = .serial) (dispatching : s.disp = .dispatching)
    (latch : s.req = some r) : execAll [.dispatch, .frameEmit] s = .next (s.dispatchReq r).emitted := by
  have outcome := DispatchLeaves.dispatchReq s r
  have serial' : (s.dispatchReq r).cfg.transport = .serial := by rw [outcome.cfg, serial]
  rw [execAll_cons _ _ _ (exec_dispatch dispatching latch),
    execAll_cons _ _ _ (exec_frameEmit_serial outcome.disp serial')]
  rfl

/-- R222: what is emitted once anything was composed is the cache. -/
theorem State.CacheChecks.emission {s : State} (h : s.CacheChecks) (valid : s.lastValid = true) :
    s.emission = s.lastResp ∧ crcCheck s.emission = true := by
  rw [emission_of_lastValid valid]
  exact ⟨rfl, h valid⟩

theorem answered_emission (s : State) (st : Byte) : (s.answered st).emission = s.responseFrame st := rfl

/-- Settles O33: the bytes are taken, the request has its outcome, and the emission follows the calls it made. -/
theorem oneResponsePerRequest : Obligations.OneResponsePerRequest := by
  intro s f wf serial empty idle checks
  obtain ⟨e, received⟩ := execAll_receive_take serial empty idle f [.dispatch, .frameEmit]
  let a := (s.taken f e).dispatchReq (decodeRequest s.cfg f)
  have outcome : DispatchLeaves (s.taken f e) a := .dispatchReq _ _
  have run : execAll [.dispatch, .frameEmit] (s.taken f e) = .next a.emitted := execAll_dispatch_emit serial rfl rfl
  obtain ⟨calls, out⟩ := outcome.calls
  refine ⟨a.emitted, calls, a.emission, received.trans run, ?out, rfl, outcome.req, outcome.rxIdx,
    (outcome.cache checks).emission, fun bad => ?bad⟩
  case out => exact congrArg (· ++ [Output.txFrame a.emission]) out
  case bad =>
    have onlyAnswers : a = (s.taken f e).answered s.cfg.stCrcError := by
      simp only [a, decodeRequest_of_bad bad]
      exact enterOutcome_error (s.taken f e) (stCrcError_ok wf)
    rw [onlyAnswers] at out ⊢
    have noCalls : calls = [] := by simpa [State.answered] using out
    exact ⟨noCalls, rfl, rfl, rfl, congrArg Frame.b1 (answered_emission _ _)⟩

end Sys2Proof.Machine
end

section
/-! The commands (42_commands.md R181 to R192): each row that the magic policy lets through is answered by its rule, so a command
says what state its rule leaves and with which status. -/

namespace Sys2Proof.Machine

/-! ### From a rule to its row -/

section
variable {s t : State} {m : Byte} {i : Instr}

/-- R111, R157: past the magic policy the outcome is that of the rule. -/
theorem AnswersBy.exec_eq {r : State × Byte} (answers : AnswersBy s m i r) (lets : s.accepts m) :
    exec i s = .next (r.1.enterOutcome r.2) := by
  rw [answers, answer_accepts s lets]

/-- R218: the OK response is composed from the state that the rule leaves. -/
theorem AnswersBy.exec_ok (answers : AnswersBy s m i (t, s.cfg.stOk)) (wf : s.cfg.WF) (lets : s.accepts m)
    (build : t.cfg = s.cfg) : exec i s = .next t.answeredOk := by
  rw [answers.exec_eq lets, enterOutcome_ok_of build wf]

/-! ### `set_keyboard_backend` and `set_mouse_backend` (R182, R183) -/

/-- `old` is the selection that an update of the record starts from: the stored byte of a valid record, and 0 otherwise (R314). -/
structure State.StoredSelection (s : State) (old : Byte) : Prop where
  ofValid : s.recordValid → old = s.nv.b1
  ofInvalid : ¬s.recordValid → old = 0#8

/-- What `REC.READ` gives an update to start from; beside that it may move the CRC register. -/
theorem State.StoredSelection.recRead {old : Byte} (stored : s.StoredSelection old) :
    ∃ c o, s.recRead = ({ s with crc := c }, o) ∧ o.getD 0#8 = old := by
  by_cases valid : s.recordValid
  · exact ⟨_, _, recRead_valid valid, (stored.ofValid valid).symm⟩
  · obtain ⟨c, read⟩ := recRead_invalid valid
    exact ⟨c, none, read, (stored.ofInvalid valid).symm⟩

/-- The state in which the selection under `mask` has been stored and a restart is asked for. -/
def State.reselected (s : State) (mask bits old : Byte) : State := { s with
  nv := s.record ((old &&& ~~~mask) ||| (bits &&& mask))
  resetRequired := true
  nvTorn := if s.cfg.nvWriteAtomic then s.nvTorn else some s.nv }

theorem ruleSetBackend_of_dynamic (dynamic : s.cfg.dynamicSupported = true) {old : Byte} (stored : s.StoredSelection old)
    (mask bits : Byte) : ∃ c, ruleSetBackend mask bits s = ({ s.reselected mask bits old with crc := c }, s.cfg.stOk) := by
  obtain ⟨c, o, read, rfl⟩ := stored.recRead
  rw [ruleSetBackend, if_pos dynamic, State.recUpdate, read]
  exact ⟨_, rfl⟩

theorem ruleSetBackend_of_static (static : s.cfg.dynamicSupported = false) (mask bits : Byte) :
    ruleSetBackend mask bits s = (s, s.cfg.stOk) :=
  if_neg (by simp [static])

/-- The response's CRC replaces the one that the record write left in the register (R20). -/
theorem answeredOk_setCrc (t : State) (c : Word) : ({ t with crc := c } : State).answeredOk = t.answeredOk := rfl

theorem AnswersBy.exec_setBackend_of_dynamic {mask bits old : Byte} (answers : AnswersBy s m i (ruleSetBackend mask bits s))
    (wf : s.cfg.WF) (lets : s.accepts m) (dynamic : s.cfg.dynamicSupported = true) (stored : s.StoredSelection old) :
    exec i s = .next (s.reselected mask bits old).answeredOk := by
  obtain ⟨c, rule⟩ := ruleSetBackend_of_dynamic dynamic stored mask bits
  rw [rule] at answers
  rw [answers.exec_ok wf lets rfl, answeredOk_setCrc]

theorem AnswersBy.exec_setBackend_of_static {mask bits : Byte} (answers : AnswersBy s m i (ruleSetBackend mask bits s))
    (wf : s.cfg.WF) (lets : s.accepts m) (static : s.cfg.dynamicSupported = false) : exec i s = .next s.answeredOk := by
  rw [ruleSetBackend_of_static static] at answers
  exact answers.exec_ok wf lets rfl

/-! ### `set_usb_connected` (R184) -/

theorem ruleSetUsbConnected_of_connectable (connectable : s.cfg.vbusConnectable = true) (flag : Byte) :
    ruleSetUsbConnected flag s = ({ s with
      out := s.out ++ [.call (.setVbusConnected (decide (flag ≠ 0#8)))]
      env := { s.env with vbusConnected := decide (flag ≠ 0#8) } }, s.cfg.stOk) := by
  rw [ruleSetUsbConnected, if_pos connectable, flagOf_eq, call_eq]

theorem ruleSetUsbConnected_of_fixed (fixed : s.cfg.vbusConnectable = false) (flag : Byte) :
    ruleSetUsbConnected flag s = (s, s.cfg.stOk) :=
  if_neg (by simp [fixed])

/-! ### `clear_all` and `key_event` (R185, R186) -/

theorem ruleClearAll_eq (s : State) :
    ruleClearAll s = ({ s with out := s.out ++ [.call .kbdClear, .call .mouseClear] }, s.cfg.stOk) := by
  simp [ruleClearAll, call_eq]

theorem exec_kbdKeyseq (code : Byte) (pressed : Bool) (s : State) :
    exec (.kbdKeyseq code pressed) s = .next (s.keyseq code pressed) := rfl

theorem sendKey_of_ps2 (ps2 : s.env.kbdKind = .ps2Keyboard) (code : Byte) (pressed : Bool) :
    s.sendKey code pressed = (s.call (.sendKey code pressed)).keyseq code pressed := if_pos ps2

theorem sendKey_of_not_ps2 (other : s.env.kbdKind ≠ .ps2Keyboard) (code : Byte) (pressed : Bool) :
    s.sendKey code pressed = s.call (.sendKey code pressed) := if_neg other

/-! ### The mouse commands (R187 to R190) -/

/-- A row whose rule makes one driver call and answers OK. -/
theorem AnswersBy.exec_call {c : Call} (answers : AnswersBy s m i (s.call c, s.cfg.stOk)) (wf : s.cfg.WF)
    (lets : s.accepts m) : exec i s = .next ({ s with out := s.out ++ [.call c] } : State).answeredOk :=
  answers.exec_ok wf lets rfl

end

/-! ### The statements -/

/-- Settles O21: the rule of `ping` leaves the state as it is. -/
theorem pingAnswersOk : Obligations.PingAnswersOk := by
  intro s m x0 x1 x2 x3 wf lets
  have answers : AnswersBy s m (.ping m x0 x1 x2 x3) (s, s.cfg.stOk) := rfl
  exact answers.exec_ok wf lets rfl

/-- Settles O22: the rule answers status 0, for which nothing is composed (R118). -/
theorem repeatLastKeepsTheCache : Obligations.RepeatLastKeepsTheCache := by
  intro s m x0 x1 x2 x3 lets
  have answers : AnswersBy s m (.repeatLast m x0 x1 x2 x3) (s, 0#8) := rfl
  rw [answers.exec_eq lets, State.enterOutcome, respond_zero]

/-- Settles O23: the two rows run one rule, each with its own mask. -/
theorem setBackendUpdatesTheRecord : Obligations.SetBackendUpdatesTheRecord := by
  intro s m bits x1 x2 x3 old wf lets ofValid ofInvalid
  have keyboard : AnswersBy s m (.setKeyboardBackend m bits x1 x2 x3) (ruleSetBackend s.cfg.bkKbdMask bits s) := rfl
  have mouse : AnswersBy s m (.setMouseBackend m bits x1 x2 x3) (ruleSetBackend s.cfg.bkMouseMask bits s) := rfl
  have stored : s.StoredSelection old := ⟨ofValid, ofInvalid⟩
  exact ⟨fun dynamic => ⟨keyboard.exec_setBackend_of_dynamic wf lets dynamic stored,
      mouse.exec_setBackend_of_dynamic wf lets dynamic stored⟩,
    fun static => ⟨keyboard.exec_setBackend_of_static wf lets static, mouse.exec_setBackend_of_static wf lets static⟩⟩

/-- Settles O24: the build decides whether the rule calls the board or leaves the state as it is. -/
theorem setUsbConnectedCallsTheBoard : Obligations.SetUsbConnectedCallsTheBoard := by
  intro s m flag x1 x2 x3 wf lets
  have answers : AnswersBy s m (.setUsbConnected m flag x1 x2 x3) (ruleSetUsbConnected flag s) := rfl
  refine ⟨fun connectable => ?connectable, fun fixed => ?fixed⟩
  case connectable =>
    rw [ruleSetUsbConnected_of_connectable connectable] at answers
    exact answers.exec_ok wf lets rfl
  case fixed =>
    rw [ruleSetUsbConnected_of_fixed fixed] at answers
    exact answers.exec_ok wf lets rfl

/-- Settles O25: `key_event` is answered from the state that `send_key` leaves, which depends on the active driver. -/
theorem keyboardCommandsCallTheirDrivers : Obligations.KeyboardCommandsCallTheirDrivers := by
  intro s m code pressed x0 x1 x2 x3 wf lets
  have clearAll : AnswersBy s m (.clearAll m x0 x1 x2 x3) (ruleClearAll s) := rfl
  have keyEvent : AnswersBy s m (.keyEvent m code pressed x2 x3) (s.sendKey code (pressedOf pressed), s.cfg.stOk) := rfl
  rw [ruleClearAll_eq] at clearAll
  rw [pressedOf_eq] at keyEvent
  have sent := keyEvent.exec_ok wf lets (s.sendKey_cfg _ _)
  refine ⟨clearAll.exec_ok wf lets rfl, fun other => ?otherDriver, fun ps2 => ⟨_, exec_kbdKeyseq _ _ _, ?ps2Driver⟩⟩
  case otherDriver => rw [sent, sendKey_of_not_ps2 other, call_eq]
  case ps2Driver => rw [sent, sendKey_of_ps2 ps2, call_eq]

/-- Settles O26: each row makes one call, whose operands are those of R102 to R105. -/
theorem mouseCommandsCallTheMouse : Obligations.MouseCommandsCallTheMouse := by
  intro s m p0 p1 p2 p3 wf lets
  have absoluteMove : AnswersBy s m (.mouseAbsoluteMove m p0 p1 p2 p3)
    (s.call (.sendMove (coordinateOf p0 p1) (coordinateOf p2 p3)), s.cfg.stOk) := rfl
  have relativeMove : AnswersBy s m (.mouseRelativeMove m p0 p1 p2 p3)
    (s.call (.sendRelative (deltaOf p0) (deltaOf p1)), s.cfg.stOk) := rfl
  have wheel : AnswersBy s m (.mouseWheel m p0 p1 p2 p3) (s.call (.sendWheel (wheelOf p1)), s.cfg.stOk) := rfl
  have buttons : AnswersBy s m (.mouseButtonEvent m p0 p1 p2 p3) (s.call (buttonsCall s.cfg p0 p1), s.cfg.stOk) := rfl
  simp only [buttonsCall, buttonOf_eq] at buttons
  exact ⟨absoluteMove.exec_call wf lets, relativeMove.exec_call wf lets, wheel.exec_call wf lets, buttons.exec_call wf lets⟩

/-- Settles O27: under R9 the code is neither 0 nor the OK status, so it is composed bare. -/
theorem unrecognisedAnswersInvalid : Obligations.UnrecognisedAnswersInvalid := by
  intro s m cmd x0 x1 x2 x3 wf lets
  have answers : AnswersBy s m (.unrecognisedCommand m cmd x0 x1 x2 x3) (s, s.cfg.stInvalidError) := rfl
  rw [answers.exec_eq lets, enterOutcome_error s (stInvalidError_ok wf)]

end Sys2Proof.Machine
end

section
/-! `RESP.COMPOSE` and `RESP.REPEAT` (43_response.md R212 to R219): the composer's status byte in the words of R212, and everything
that a composition writes. -/

namespace Sys2Proof.Machine

/-- The model tests a driver's kind with `!=`; the statements decide `≠`. -/
theorem driverKind_bne (k l : DriverKind) : (k != l) = decide (k ≠ l) := decide_not.symm

/-- R212: bare unless OK; the offline and LED bits only under a driver that is not Dummy. -/
theorem statusByte_eq (s : State) (st : Byte) : statusByte s st =
    if st = s.cfg.stOk then
      s.cfg.stOk ||| bitIf s.resetRequired s.cfg.stResetRequired
        ||| bitIf (decide (s.env.kbdKind ≠ .dummy) && s.env.kbdOffline) s.cfg.stKbdOffline
        ||| bitIf (decide (s.env.kbdKind ≠ .dummy) && s.env.leds.caps) s.cfg.stLedCaps
        ||| bitIf (decide (s.env.kbdKind ≠ .dummy) && s.env.leds.num) s.cfg.stLedNum
        ||| bitIf (decide (s.env.kbdKind ≠ .dummy) && s.env.leds.scroll) s.cfg.stLedScroll
        ||| bitIf (decide (s.env.mouseKind ≠ .dummy) && s.env.mouseOffline) s.cfg.stMouseOffline
    else st := by
  simp only [statusByte, driverKind_bne]

/-- R218: a composition writes the CRC register and the cache, whose last two bytes are the CRC of the six before them. -/
theorem compose_eq (s : State) (st : Byte) : s.compose st = { s with
    crc := crcBlock [s.cfg.responseMagic, statusByte s st, backendByte s, capsByte s, 0#8, 0#8]
    lastResp := s.responseFrame (statusByte s st)
    lastValid := true } := rfl

/-- R219: a repeat writes nothing. -/
theorem exec_respRepeat (s : State) : exec .respRepeat s = .next s := rfl

/-- R118: composing status 0 is a repeat. -/
theorem exec_respCompose_zero (s : State) : exec (.respCompose 0#8) s = .next s :=
  congrArg Host.Outcome.next (respond_zero s)

/-- Settles O34: bytes 2 and 3 stand in the model as R213 and R214 give them, byte 1 is `statusByte_eq`. -/
theorem composeWritesTheResponse : Obligations.ComposeWritesTheResponse := by
  intro s st ne
  refine ⟨?composed, exec_respRepeat s, exec_respCompose_zero s⟩
  case composed =>
    rw [exec_respCompose s ne, compose_eq, statusByte_eq]
    rfl

end Sys2Proof.Machine
end

section
/-! The wire frame of R93 slot by slot, and when eleven bits are the frame of the byte in their data slots. -/

namespace Sys2Proof

/-- R93: slots 1 to 8 carry the byte, least significant bit first. -/
theorem wire_data (d : Byte) {i : Nat} (h : i < 8) : (wire d).getLsbD (i + 1) = d.getLsbD i := by
  rw [wire, BitVec.getLsbD_append, BitVec.getLsbD_append]
  simp [h]

theorem wire_parity (d : Byte) : (wire d).getLsbD 9 = parityBit d := by
  simp only [wire, BitVec.getLsbD_append]
  simp

theorem wire_stop (d : Byte) : (wire d).getLsbD 10 = true := by
  simp only [wire, BitVec.getLsbD_append]
  simp

theorem wireData_getLsbD (w : BitVec 11) {i : Nat} (h : i < 8) : (wireData w).getLsbD i = w.getLsbD (i + 1) := by
  simp [wireData, h, Nat.add_comm]

/-- Eleven bits are a wire frame exactly when the start, parity and stop slots are those of their data slots. -/
theorem eq_wire_wireData_iff (w : BitVec 11) : w = wire (wireData w) ↔
    w.getLsbD 0 = false ∧ w.getLsbD 9 = parityBit (wireData w) ∧ w.getLsbD 10 = true := by
  constructor
  · intro frame
    have slot (k : Nat) : w.getLsbD k = (wire (wireData w)).getLsbD k := congrArg (BitVec.getLsbD · k) frame
    exact ⟨(slot 0).trans (wire_start _), (slot 9).trans (wire_parity _), (slot 10).trans (wire_stop _)⟩
  · intro ⟨start, parity, stop⟩
    refine BitVec.eq_of_getLsbD_eq fun k inside => ?_
    obtain rfl | ⟨i, small, rfl⟩ | rfl | rfl : k = 0 ∨ (∃ i < 8, k = i + 1) ∨ k = 9 ∨ k = 10 := by
      rcases k with _ | i
      · exact .inl rfl
      · by_cases small : i < 8
        · exact .inr (.inl ⟨i, small, rfl⟩)
        · omega
    · rw [start, wire_start]
    · rw [wire_data _ small, wireData_getLsbD w small]
    · rw [parity, wire_parity]
    · rw [stop, wire_stop]

theorem toNat_bnot (a : Bool) : (!a).toNat = (a.toNat + 1) % 2 := by cases a <;> rfl

theorem toNat_bxor (a b : Bool) : (a ^^ b).toNat = (a.toNat + b.toNat) % 2 := by cases a <;> cases b <;> rfl

theorem parityBit_toNat (d : Byte) : (parityBit d).toNat = (popcount d + 1) % 2 := by
  simp only [parityBit, popcount, toNat_bnot, toNat_bxor]
  omega

/-- R12: a parity bit is the odd one exactly when it makes the number of ones odd, as `RX_FINISH` counts it (R241). -/
theorem eq_parityBit_iff (p : Bool) (d : Byte) : p = parityBit d ↔ (popcount d + p.toNat) % 2 = 1 := by
  have parity := parityBit_toNat d
  have small : p.toNat ≤ 1 := Bool.toNat_le p
  have injective : Function.Injective Bool.toNat := Function.LeftInverse.injective Bool.ofNat_toNat
  rw [← injective.eq_iff]
  omega

end Sys2Proof
end

section
/-! `PS2.SAMPLE` on one channel (44_ps2_transceiver.md R237 to R249), clause by clause: what the receiver does at a falling edge and
without one, what starts a transmission, and the two phases of a transmitted slot; then the rows of the transceiver and the
statements that say what each does in one step. -/

namespace Sys2Proof.Machine

section
variable {c : Channel} {clk d : Bool}

/-! ### The receiver (R238 to R243) -/

theorem Channel.fall_of_prev (prev : c.clkPrev = true) : c.fall false = true := by simp [Channel.fall, prev]

theorem Channel.fall_eq_true_iff : c.fall clk = true ↔ c.clkPrev = true ∧ clk = false := by simp [Channel.fall]

theorem Channel.rxDeliver_of_empty (empty : c.rxLatch = none) (b : Byte) : c.rxDeliver b = { c with rxLatch := some b } := by
  simp only [Channel.rxDeliver, empty]

theorem Channel.rxDeliver_of_full (full : c.rxLatch ≠ none) (b : Byte) : c.rxDeliver b = { c with rxOverrun := true } := by
  obtain ⟨_, held⟩ := Option.ne_none_iff_exists'.mp full
  simp only [Channel.rxDeliver, held]

theorem Channel.rxFinish_of_good (good : d = true ∧ (popcount c.rxShift + c.rxPar.toNat) % 2 = 1) :
    c.rxFinish d = c.rxDeliver c.rxShift := if_pos (by simpa using good)

theorem Channel.rxFinish_of_bad (bad : ¬(d = true ∧ (popcount c.rxShift + c.rxPar.toNat) % 2 = 1)) :
    c.rxFinish d = { c with rxErr := true } := if_neg (by simpa using bad)

theorem Channel.rxStep_of_no_edge (rx : c.rxFsm ≠ .stopBit) (still : c.fall clk = false) : c.rxStep clk d = c := by
  unfold Channel.rxStep
  cases state : c.rxFsm with
  | stopBit => exact absurd state rx
  | _ => simp [still]

theorem Channel.rxStep_idle_clk_high (rx : c.rxFsm = .idle) : c.rxStep true d = c := by
  simp [Channel.rxStep, rx, Channel.fall]

theorem Channel.rxStep_idle_dat_high (rx : c.rxFsm = .idle) : c.rxStep clk true = c := by
  simp [Channel.rxStep, rx]

theorem Channel.rxStep_idle (prev : c.clkPrev = true) (rx : c.rxFsm = .idle) :
    c.rxStep false false = { c with rxFsm := .startBit } := by
  simp [Channel.rxStep, rx, c.fall_of_prev prev]

theorem Channel.rxStep_startBit (prev : c.clkPrev = true) (rx : c.rxFsm = .startBit) :
    c.rxStep false d = { c with rxShift := setBit c.rxShift 0 d, rxFsm := .dataBits 0 } := by
  simp [Channel.rxStep, rx, c.fall_of_prev prev]

theorem Channel.rxStep_dataBits (prev : c.clkPrev = true) {i : Fin 8} (rx : c.rxFsm = .dataBits i) (more : i.val < 7) :
    c.rxStep false d = { c with rxShift := setBit c.rxShift (i.val + 1) d, rxFsm := .dataBits (i + 1) } := by
  simp [Channel.rxStep, rx, c.fall_of_prev prev, more]

theorem Channel.rxStep_dataBits_last (prev : c.clkPrev = true) (rx : c.rxFsm = .dataBits 7) :
    c.rxStep false d = { c with rxPar := d, rxFsm := .parity } := by
  simp [Channel.rxStep, rx, c.fall_of_prev prev]

theorem Channel.rxStep_parity (prev : c.clkPrev = true) (rx : c.rxFsm = .parity) :
    c.rxStep false d = { c.rxFinish d with rxFsm := .stopBit } := by
  simp [Channel.rxStep, rx, c.fall_of_prev prev]

theorem Channel.rxStep_stopBit_low (rx : c.rxFsm = .stopBit) : c.rxStep false d = c := by
  simp [Channel.rxStep, rx]

theorem Channel.rxStep_stopBit_high (rx : c.rxFsm = .stopBit) : c.rxStep true d = { c with rxFsm := .idle } := by
  simp [Channel.rxStep, rx]

/-! ### The transmitter (R245 to R249) -/

theorem Channel.txStart_of_still (still : c.txq = [] ∨ clk = false ∨ d = false ∨ c.clkPrev = false) :
    c.txStart clk d = c := by
  unfold Channel.txStart
  split
  · rfl
  · next head =>
    refine if_neg ?_
    obtain empty | rfl | rfl | low := still
    · exact absurd (head.symm.trans empty) (List.cons_ne_nil _ _)
    all_goals simp [*]

/-- The channel on which the byte `b` starts: slot 0, the start bit, is driven. -/
theorem Channel.txStart_of_cons {b : Byte} {q : List Byte} (head : c.txq = b :: q) (prev : c.clkPrev = true) :
    c.txStart true true = { c with txq := q, txByte := b, txFsm := .txSlot 0 .setup, clkPull := false, datPull := true } := by
  simp [Channel.txStart, head, prev]

theorem Channel.collision_iff :
    c.collision clk d = true ↔ (c.clkPull = false ∧ clk = false) ∨ (c.datPull = false ∧ d = false) := by
  simp [Channel.collision]

variable {k : Fin 11} {ph : Phase}

theorem Channel.txStep_of_collision (slot : c.txFsm = .txSlot k ph) (hit : c.collision clk d = true) :
    c.txStep clk d = c.txAbort := by
  simp only [Channel.txStep, slot, hit, if_true]

theorem Channel.txStep_setup (slot : c.txFsm = .txSlot k .setup) (free : ¬c.collision clk d = true) :
    c.txStep clk d = { c with clkPull := true, txFsm := .txSlot k .low } := by
  simp only [Channel.txStep, slot, if_neg free]

theorem Channel.txStep_low (slot : c.txFsm = .txSlot k .low) (free : ¬c.collision clk d = true) (more : k.val < 10) :
    c.txStep clk d = { c with
      clkPull := false, datPull := !(wire c.txByte).getLsbD (k.val + 1), txFsm := .txSlot (k + 1) .setup } := by
  simp only [Channel.txStep, slot, if_neg free, if_pos more]

theorem Channel.txStep_low_last (slot : c.txFsm = .txSlot 10 .low) (free : ¬c.collision clk d = true) :
    c.txStep clk d = { c with clkPull := false, datPull := false, txFsm := .txIdle } := by
  simp only [Channel.txStep, slot, if_neg free]
  rfl

/-! ### One sample (R237) -/

theorem Channel.sample_sending (slot : c.txFsm = .txSlot k ph) :
    c.sample clk d = { c.txStep clk d with clkPrev := clk } := by
  simp [Channel.sample, slot]

theorem Channel.sample_receiving (idle : c.txFsm = .txIdle) (busy : (c.rxStep clk d).rxFsm ≠ .idle) :
    c.sample clk d = { c.rxStep clk d with clkPrev := clk } := by
  simp [Channel.sample, idle, busy]

theorem Channel.sample_free (idle : c.txFsm = .txIdle) (free : (c.rxStep clk d).rxFsm = .idle) :
    c.sample clk d = { (c.rxStep clk d).txStart clk d with clkPrev := clk } := by
  simp [Channel.sample, idle, free]

variable {c' : Channel}

theorem Channel.sample_waits (idle : c.txFsm = .txIdle) (received : c.rxStep clk d = c') (free : c'.rxFsm = .idle)
    (still : c'.txq = [] ∨ clk = false ∨ d = false ∨ c'.clkPrev = false) : c.sample clk d = { c' with clkPrev := clk } := by
  subst received
  rw [Channel.sample_free idle free, Channel.txStart_of_still still]

theorem Channel.sample_starts (idle : c.txFsm = .txIdle) (received : c.rxStep true true = c') (free : c'.rxFsm = .idle)
    {b : Byte} {q : List Byte} (head : c'.txq = b :: q) (prev : c'.clkPrev = true) : c.sample true true = { c' with
      txq := q, txByte := b, txFsm := .txSlot 0 .setup, clkPull := false, datPull := true, clkPrev := true } := by
  subst received
  rw [Channel.sample_free idle free, Channel.txStart_of_cons head prev]

/-- The receiver neither drives the lines, nor sends, nor remembers the clock. -/
theorem Channel.rxFinish_lines (stop : Bool) :
    (c.rxFinish stop).clkPrev = c.clkPrev ∧ (c.rxFinish stop).clkPull = c.clkPull ∧ (c.rxFinish stop).datPull = c.datPull := by
  unfold Channel.rxFinish Channel.rxDeliver
  split_ifs
  · split <;> exact ⟨rfl, rfl, rfl⟩
  · exact ⟨rfl, rfl, rfl⟩

theorem Channel.rxStep_lines : (c.rxStep clk d).clkPrev = c.clkPrev ∧ (c.rxStep clk d).txFsm = c.txFsm ∧
    (c.rxStep clk d).clkPull = c.clkPull ∧ (c.rxStep clk d).datPull = c.datPull := by
  obtain ⟨prev, clock, data⟩ := c.rxFinish_lines d
  have tx : (c.rxFinish d).txFsm = c.txFsm := Channel.rxFinish_txFsm d
  unfold Channel.rxStep
  split
  · split <;> exact ⟨rfl, rfl, rfl, rfl⟩
  · split <;> exact ⟨rfl, rfl, rfl, rfl⟩
  · split_ifs <;> exact ⟨rfl, rfl, rfl, rfl⟩
  · split
    · exact ⟨prev, tx, clock, data⟩
    · exact ⟨rfl, rfl, rfl, rfl⟩
  · split <;> exact ⟨rfl, rfl, rfl, rfl⟩

/-- Nothing starts in a sample unless the clock is high in it and in the one before (R245). -/
theorem Channel.sample_of_not_high (idle : c.txFsm = .txIdle) (low : clk = false ∨ c.clkPrev = false) :
    c.sample clk d = { c.rxStep clk d with clkPrev := clk } := by
  by_cases free : (c.rxStep clk d).rxFsm = .idle
  · have still : clk = false ∨ d = false ∨ (c.rxStep clk d).clkPrev = false :=
      low.imp_right fun prev => .inr (c.rxStep_lines.1.trans prev)
    exact Channel.sample_waits idle rfl free (.inr still)
  · exact Channel.sample_receiving idle free

end

/-! ### The rows of the transceiver on a serviced channel -/

section
variable {s : State} {ch : Chan}

theorem exec_ps2Sample (on : s.serviced ch = true) :
    exec (.ps2Sample ch) s = .next (s.setChan ch ((s.chan ch).sample (s.clkLine ch) (s.datLine ch))) :=
  congrArg Host.Outcome.next (if_pos on)

/-- The same, from an equation for what the sample leaves of the channel. -/
theorem exec_ps2Sample_of {c : Channel} (on : s.serviced ch = true)
    (next : (s.chan ch).sample (s.clkLine ch) (s.datLine ch) = c) : exec (.ps2Sample ch) s = .next (s.setChan ch c) :=
  next ▸ exec_ps2Sample on

theorem exec_ps2Take {b : Byte} (full : (s.chan ch).rxLatch = some b) :
    exec (.ps2Take ch) s = .next { s.setChan ch { s.chan ch with rxLatch := none } with result := .byte b } := by
  simp only [exec, execPs2Take, full]
  rfl

theorem exec_ps2Enqueue (b : Byte) : exec (.ps2Enqueue ch b) s = .next (s.enqueue ch b) := rfl

theorem exec_ps2Rxframe (on : s.serviced ch = true) (rest : (s.chan ch).atRest = true) (w : BitVec 11) :
    exec (.ps2Rxframe ch w) s = .next (s.setChan ch ((s.chan ch).rxFrame w)) :=
  congrArg Host.Outcome.next (if_pos (by rw [on, rest]; rfl))

theorem exec_ps2Txframe (on : s.serviced ch = true) (rest : (s.chan ch).atRest = true) {b : Byte} {q : List Byte}
    (head : (s.chan ch).txq = b :: q) : exec (.ps2Txframe ch) s
      = .next { s.setChan ch { s.chan ch with txq := q } with out := s.out ++ [.wireFrame ch (wire b)] } := by
  simp only [exec, execPs2Txframe, on, rest, head]
  rfl

end

section
variable {c : Channel}

theorem Channel.rxFrame_wire (b : Byte) : c.rxFrame (wire b) = c.rxDeliver b := by
  simp [Channel.rxFrame]

theorem Channel.rxFrame_of_ne {w : BitVec 11} (other : w ≠ wire (wireData w)) (start : w.getLsbD 0 = false) :
    c.rxFrame w = { c with rxErr := true } := by
  rw [Channel.rxFrame, if_neg other, if_pos start]

theorem Channel.rxFrame_of_no_start {w : BitVec 11} (noStart : w.getLsbD 0 = true) : c.rxFrame w = c := by
  have other : w ≠ wire (wireData w) := fun frame => Bool.noConfusion (noStart.symm.trans ((eq_wire_wireData_iff w).mp frame).1)
  rw [Channel.rxFrame, if_neg other, if_neg (by simp [noStart])]

end

/-- Settles O37: `Channel.sample` ends by storing the clock level. -/
theorem sampleStaysOnItsChannel : Obligations.SampleStaysOnItsChannel :=
  fun _ _ on => ⟨_, exec_ps2Sample on, rfl⟩

/-- Settles O38: at a falling edge nothing is sent, so the sample is the receiver's step; only a high clock leaves `StopBit`, and
then the queue may start. -/
theorem receiverTakesOneSlotPerEdge : Obligations.ReceiverTakesOneSlotPerEdge := by
  intro s ch on c d goes idle
  have goes_of {c' : Channel} (next : c.sample (s.clkLine ch) d = { c' with clkPrev := s.clkLine ch }) : goes c' :=
    exec_ps2Sample_of on next
  have goes_low {c' : Channel} (low : s.clkLine ch = false) (next : c.rxStep false d = c') : goes c' :=
    goes_of (by rw [Channel.sample_of_not_high idle (.inl low), low, next])
  refine ⟨fun prev low => ⟨fun rx start => ?start, fun rx noStart => ?noStart, fun rx => ?firstBit, fun i rx more => ?nextBit,
    fun rx => ?parityBit, fun rx => ⟨fun good empty => ?delivered, fun good full => ?overrun, fun bad => ?dropped⟩⟩,
    fun still rx notStop => ?noEdge, fun rx low => ?stopHeld,
    fun rx high => ⟨fun quiet => ?stopLeft, fun b q prev data head => ?sendingStarts⟩⟩
  case start => exact goes_low low (start ▸ Channel.rxStep_idle prev rx)
  case noStart => exact goes_low low (noStart ▸ Channel.rxStep_idle_dat_high rx)
  case firstBit => exact goes_low low (Channel.rxStep_startBit prev rx)
  case nextBit => exact goes_low low (Channel.rxStep_dataBits prev rx more)
  case parityBit => exact goes_low low (Channel.rxStep_dataBits_last prev rx)
  case delivered =>
    exact goes_low low (by rw [Channel.rxStep_parity prev rx, Channel.rxFinish_of_good good, Channel.rxDeliver_of_empty empty])
  case overrun =>
    exact goes_low low (by rw [Channel.rxStep_parity prev rx, Channel.rxFinish_of_good good, Channel.rxDeliver_of_full full])
  case dropped => exact goes_low low (by rw [Channel.rxStep_parity prev rx, Channel.rxFinish_of_bad bad])
  case noEdge =>
    have keeps : c.rxStep (s.clkLine ch) d = c :=
      Channel.rxStep_of_no_edge notStop (Bool.eq_false_of_not_eq_true (mt Channel.fall_eq_true_iff.mp still))
    exact goes_of (by rw [Channel.sample_receiving idle (by rw [keeps]; exact rx), keeps])
  case stopHeld => exact goes_low low (Channel.rxStep_stopBit_low rx)
  case stopLeft => exact goes_of (high ▸ Channel.sample_waits idle (Channel.rxStep_stopBit_high rx) rfl (by tauto))
  case sendingStarts =>
    exact goes_of (by rw [high, data, Channel.sample_starts idle (Channel.rxStep_stopBit_high rx) rfl head prev])

/-- Settles O39: a collision comes before either phase; without one the phase is taken. -/
theorem transmitterDrivesOneSlotInTwoPhases : Obligations.TransmitterDrivesOneSlotInTwoPhases := by
  intro s ch on c clk d goes collision
  have goes_of {c' : Channel} (next : c.sample clk d = { c' with clkPrev := clk }) : goes c' := exec_ps2Sample_of on next
  have goes_sending {k : Fin 11} {ph : Phase} {c' : Channel} (slot : c.txFsm = .txSlot k ph) (next : c.txStep clk d = c') :
      goes c' := goes_of (by rw [Channel.sample_sending slot, next])
  have free (h : ¬collision) : ¬c.collision clk d = true := mt Channel.collision_iff.mp h
  refine ⟨fun tx rx => ⟨fun b q head high data prev => ?starts, fun still => ?waits⟩, fun k ph slot hit => ?aborts,
    fun k slot h => ?setup, fun k slot more h => ?low, fun slot h => ?last⟩
  case starts =>
    exact goes_of (by rw [high, data, Channel.sample_starts tx (Channel.rxStep_idle_clk_high rx) rx head prev])
  case waits =>
    have noEdge : c.fall clk = false := by rcases still with ⟨high, _⟩ | prev <;> simp [Channel.fall, *]
    exact goes_of (Channel.sample_waits tx (Channel.rxStep_of_no_edge (by simp [rx]) noEdge) rx (by tauto))
  case aborts => exact goes_sending slot (Channel.txStep_of_collision slot (Channel.collision_iff.mpr hit))
  case setup => exact goes_sending slot (Channel.txStep_setup slot (free h))
  case low => exact goes_sending slot (Channel.txStep_low slot (free h) more)
  case last => exact goes_sending slot (Channel.txStep_low_last slot (free h))

/-- Settles O42: one case per side of the queue's bound. -/
theorem takeAndEnqueue : Obligations.TakeAndEnqueue := by
  intro s ch b
  refine ⟨exec_ps2Take, fun room => ?room, fun full => ?full⟩
  case room => rw [exec_ps2Enqueue, State.enqueue_eq, Channel.enqueue_room room]
  case full => rw [exec_ps2Enqueue, State.enqueue_eq, Channel.enqueue_full full]

/-- Settles O43: a channel whose machines are both idle is at rest, so the byte-level rows run. -/
theorem byteLevelFrames : Obligations.ByteLevelFrames := by
  intro s ch b w q on rx tx c
  have rest : c.atRest = true := c.atRest_iff.mpr ⟨rx, tx⟩
  refine ⟨fun empty => ?delivered, fun full => ?overrun, fun other start => ?dropped, fun noStart => ?ignored,
    exec_ps2Txframe on rest⟩
  case delivered => rw [exec_ps2Rxframe on rest, Channel.rxFrame_wire, Channel.rxDeliver_of_empty empty]
  case overrun => rw [exec_ps2Rxframe on rest, Channel.rxFrame_wire, Channel.rxDeliver_of_full full]
  case dropped => rw [exec_ps2Rxframe on rest, Channel.rxFrame_of_ne (other _) start]
  case ignored => rw [exec_ps2Rxframe on rest, Channel.rxFrame_of_no_start noStart, State.setChan_chan]

/-- Settles O47: `KBD.KEYSEQ` offers its bytes one after the other. -/
theorem fullQueueCutsTheSequence : Obligations.FullQueueCutsTheSequence := by
  intro s code pressed bound
  have offered : s.keyseq code pressed = s.offered .kbd (keySequence s.cfg code pressed) := State.enqueueAll_offered bound
  rw [exec_kbdKeyseq, offered]
  rfl

end Sys2Proof.Machine
end

section
/-! The receive contract (44_ps2_transceiver.md R234, R257): the schedule of a target that sends eleven slots runs the receiver once per
slot, and eleven slots beginning with a start bit leave what `PS2.RXFRAME` leaves. -/

namespace Sys2Proof.Machine

/-! ### The received byte, bit by bit (R239) -/

theorem getLsbD_setBit (v : Byte) {i j : Nat} (hi : i < 8) (hj : j < 8) (d : Bool) :
    (setBit v i d).getLsbD j = if j = i then d else v.getLsbD j := by
  have bit : (1#8 <<< i).getLsbD j = decide (j = i) := (BitVec.getLsbD_twoPow i j).trans (by simp [hi, eq_comm])
  cases d with
  | false =>
    rw [setBit, if_neg nofun, BitVec.getLsbD_and, BitVec.getLsbD_not, bit]
    by_cases same : j = i <;> simp [same, hi, hj]
  | true =>
    rw [setBit, if_pos rfl, BitVec.getLsbD_or, bit]
    by_cases same : j = i <;> simp [same]

/-- The shift register `v` with its `n` low bits written from the data slots of `w`, slot 1 first. -/
def shiftedIn (w : BitVec 11) (v : Byte) : Nat → Byte
  | 0 => v
  | n + 1 => setBit (shiftedIn w v n) n (w.getLsbD (n + 1))

theorem getLsbD_shiftedIn (w : BitVec 11) (v : Byte) {n j : Nat} (bound : n ≤ 8) (written : j < n) :
    (shiftedIn w v n).getLsbD j = w.getLsbD (j + 1) := by
  induction n with
  | zero => omega
  | succ n ih =>
    rw [shiftedIn, getLsbD_setBit _ (by omega) (by omega)]
    split
    · next last => rw [last]
    · exact ih (by omega) (by omega)

/-- Eight data slots leave nothing of the register's old content. -/
theorem shiftedIn_eight (w : BitVec 11) (v : Byte) : shiftedIn w v 8 = wireData w :=
  BitVec.eq_of_getLsbD_eq fun j inside => by
    rw [getLsbD_shiftedIn w v (Nat.le_refl 8) inside, wireData_getLsbD w inside]

/-! ### One slot on the channel -/

/-- A channel that hears its target: it sends nothing, drives neither line and has seen the clock high. -/
structure Channel.Listening (c : Channel) : Prop where
  tx : c.txFsm = .txIdle
  clk : c.clkPull = false
  dat : c.datPull = false
  prev : c.clkPrev = true

/-- The two samples of one slot: the clock low, then high, with the data line at `d` for both. -/
def Channel.slot (c : Channel) (d : Bool) : Channel := (c.sample false d).sample true d

/-- The slots `ks` of `w`, one after the other. -/
def Channel.slots (c : Channel) (w : BitVec 11) (ks : List Nat) : Channel := ks.foldl (fun c k => c.slot (w.getLsbD k)) c

section
variable {c c' : Channel} {d : Bool}

theorem Channel.slots_range_succ (w : BitVec 11) (n : Nat) :
    c.slots w (List.range (n + 1)) = (c.slots w (List.range n)).slot (w.getLsbD n) := by
  simp [Channel.slots, List.range_succ]

/-- The low sample takes the receiver's step, and the high one does not let anything start. -/
theorem Channel.Listening.slot_eq (h : c.Listening) (edge : c.rxStep false d = c') :
    c.slot d = { ({ c' with clkPrev := false } : Channel).rxStep true d with clkPrev := true } := by
  have low : c.sample false d = { c' with clkPrev := false } := by
    rw [Channel.sample_of_not_high h.tx (.inl rfl), edge]
  have idle : ({ c' with clkPrev := false } : Channel).txFsm = .txIdle := edge ▸ c.rxStep_lines.2.1.trans h.tx
  rw [Channel.slot, low, Channel.sample_of_not_high idle (.inr rfl)]

/-- Inside a frame one slot is one step of the receiver. -/
theorem Channel.Listening.slot_of_edge (h : c.Listening) (edge : c.rxStep false d = c') (inside : c'.rxFsm ≠ .stopBit)
    (prev : c'.clkPrev = true) : c.slot d = c' := by
  have waits : ({ c' with clkPrev := false } : Channel).rxStep true d = { c' with clkPrev := false } :=
    Channel.rxStep_of_no_edge inside rfl
  rw [h.slot_eq edge, waits, ← prev]

theorem Channel.Listening.slot (h : c.Listening) (d : Bool) : (c.slot d).Listening := by
  obtain ⟨_, tx, clk, dat⟩ := c.rxStep_lines (clk := false) (d := d)
  obtain ⟨_, tx', clk', dat'⟩ := ({ c.rxStep false d with clkPrev := false } : Channel).rxStep_lines (clk := true) (d := d)
  rw [h.slot_eq rfl]
  exact ⟨tx'.trans (tx.trans h.tx), clk'.trans (clk.trans h.clk), dat'.trans (dat.trans h.dat), rfl⟩

theorem Channel.Listening.sample_low_released (h : c.Listening) (d : Bool) :
    (c.sample false d).clkPull = false ∧ (c.sample false d).datPull = false := by
  obtain ⟨_, _, clk, dat⟩ := c.rxStep_lines (clk := false) (d := d)
  rw [Channel.sample_of_not_high h.tx (.inl rfl)]
  exact ⟨clk.trans h.clk, dat.trans h.dat⟩

/-! ### Eleven slots on the channel -/

/-- After the start slot and `n + 1` data slots the receiver stands in `DataBits(n)`. -/
theorem Channel.Listening.slots_data (h : c.Listening) (rx : c.rxFsm = .idle) {w : BitVec 11} (start : w.getLsbD 0 = false)
    {n : Nat} (bound : n < 8) : c.slots w (List.range (n + 2)) =
      { c with rxFsm := .dataBits ⟨n, bound⟩, rxShift := shiftedIn w c.rxShift (n + 1) } := by
  induction n with
  | zero =>
    have first : c.slots w (List.range 1) = { c with rxFsm := .startBit } :=
      h.slot_of_edge (start ▸ Channel.rxStep_idle h.prev rx) nofun h.prev
    have next : ({ c with rxFsm := .startBit } : Channel).Listening := ⟨h.tx, h.clk, h.dat, h.prev⟩
    rw [Channel.slots_range_succ, first]
    exact next.slot_of_edge (Channel.rxStep_startBit h.prev rfl) nofun h.prev
  | succ n ih =>
    rw [Channel.slots_range_succ, ih (by omega)]
    have next : ({ c with rxFsm := .dataBits ⟨n, by omega⟩, rxShift := shiftedIn w c.rxShift (n + 1) } : Channel).Listening :=
      ⟨h.tx, h.clk, h.dat, h.prev⟩
    have succ : (⟨n, by omega⟩ : Fin 8) + 1 = ⟨n + 1, bound⟩ :=
      Fin.ext (Fin.val_add_one_of_lt (Fin.lt_def.mpr (by simp [Fin.last]; omega)))
    refine next.slot_of_edge ?_ nofun h.prev
    rw [Channel.rxStep_dataBits next.prev rfl (show n < 7 by omega), succ]
    rfl

/-- The channel with the byte and the parity bit of `w` received and the stop bit to come. -/
def Channel.assembled (c : Channel) (w : BitVec 11) : Channel :=
  { c with rxFsm := .parity, rxShift := wireData w, rxPar := w.getLsbD 9 }

theorem Channel.Listening.slots_ten (h : c.Listening) (rx : c.rxFsm = .idle) {w : BitVec 11} (start : w.getLsbD 0 = false) :
    c.slots w (List.range 10) = c.assembled w := by
  rw [Channel.slots_range_succ, h.slots_data rx start (show 7 < 8 by omega), shiftedIn_eight]
  have next : ({ c with rxFsm := .dataBits 7, rxShift := wireData w } : Channel).Listening := ⟨h.tx, h.clk, h.dat, h.prev⟩
  exact next.slot_of_edge (Channel.rxStep_dataBits_last next.prev rfl) nofun h.prev

theorem Channel.rxDeliver_assembled (w : BitVec 11) (b : Byte) :
    (c.assembled w).rxDeliver b = (c.rxDeliver b).assembled w := by
  unfold Channel.rxDeliver Channel.assembled
  cases c.rxLatch <;> rfl

/-- `RX_FINISH` on the assembled byte accepts and delivers as `PS2.RXFRAME` does (R241, R257). -/
theorem Channel.rxFinish_assembled {w : BitVec 11} (start : w.getLsbD 0 = false) :
    (c.assembled w).rxFinish (w.getLsbD 10) = (c.rxFrame w).assembled w := by
  have good_iff : w = wire (wireData w) ↔
      w.getLsbD 10 = true ∧ (popcount (wireData w) + (w.getLsbD 9).toNat) % 2 = 1 := by
    rw [eq_wire_wireData_iff, eq_parityBit_iff]
    tauto
  by_cases good : w = wire (wireData w)
  · have finish : (c.assembled w).rxFinish (w.getLsbD 10) = (c.assembled w).rxDeliver (wireData w) :=
      Channel.rxFinish_of_good (good_iff.mp good)
    rw [finish, Channel.rxDeliver_assembled, Channel.rxFrame, if_pos good]
  · have finish : (c.assembled w).rxFinish (w.getLsbD 10) = { c.assembled w with rxErr := true } :=
      Channel.rxFinish_of_bad (mt good_iff.mpr good)
    rw [finish, Channel.rxFrame_of_ne good start]
    rfl

theorem Channel.rxFrame_rxFsm_clkPrev (w : BitVec 11) :
    (c.rxFrame w).rxFsm = c.rxFsm ∧ (c.rxFrame w).clkPrev = c.clkPrev := by
  unfold Channel.rxFrame Channel.rxDeliver
  split_ifs
  · split <;> exact ⟨rfl, rfl⟩
  all_goals exact ⟨rfl, rfl⟩

/-- R257 on one channel: eleven slots leave what the byte-level step leaves, and the byte and parity as assembled. -/
theorem Channel.Listening.slots_eleven (h : c.Listening) (rx : c.rxFsm = .idle) {w : BitVec 11} (start : w.getLsbD 0 = false) :
    c.slots w (List.range 11) = { c.rxFrame w with rxShift := wireData w, rxPar := w.getLsbD 9 } := by
  have next : (c.assembled w).Listening := ⟨h.tx, h.clk, h.dat, h.prev⟩
  have edge : (c.assembled w).rxStep false (w.getLsbD 10) = { (c.rxFrame w).assembled w with rxFsm := .stopBit } := by
    rw [Channel.rxStep_parity next.prev rfl, Channel.rxFinish_assembled start]
  obtain ⟨fsm, prev⟩ := c.rxFrame_rxFsm_clkPrev w
  rw [Channel.slots_range_succ, h.slots_ten rx start, next.slot_eq edge, Channel.rxStep_stopBit_high rfl]
  simp only [Channel.assembled, ← rx, ← fsm, ← h.prev, ← prev]

end

/-! ### One slot on the machine -/

/-- The four events of one slot. -/
def targetSlot (ch : Chan) (d : Bool) : List Event :=
  [.env (.pulls ch ⟨true, !d⟩), .op (.ps2Sample ch), .env (.pulls ch ⟨false, !d⟩), .op (.ps2Sample ch)]

theorem targetSends_eq (ch : Chan) (w : BitVec 11) :
    targetSends ch w = (List.range 11).flatMap (fun k => targetSlot ch (w.getLsbD k)) := rfl

section
variable {s : State} {ch : Chan} {es : List Event}

theorem stepEnabled_ps2Sample : s.stepEnabled (.ps2Sample ch) = s.serviced ch := by
  simp [State.stepEnabled, contextOf, channelOf]

/-- The machine after the target of a channel has set its lines, with `rest` of the schedule to come. -/
def State.withPulls (s : State) (ch : Chan) (p : Pulls) (rest : List Event) : State :=
  { s with sched := rest, nvTorn := none, env := s.env.change (.pulls ch p) }

theorem step_of_pulls {p : Pulls} (sched : s.sched = .env (.pulls ch p) :: es) : step s = .next (s.withPulls ch p es) :=
  step_of_env sched

theorem withPulls_pulls (p : Pulls) : (s.withPulls ch p es).env.pulls ch = p := by cases ch <;> rfl

theorem withPulls_chan (p : Pulls) : (s.withPulls ch p es).chan ch = s.chan ch := by cases ch <;> rfl

theorem withPulls_serviced (p : Pulls) : (s.withPulls ch p es).serviced ch = s.serviced ch := by cases ch <;> rfl

theorem setChan_serviced (c : Channel) : (s.setChan ch c).serviced ch = s.serviced ch := by cases ch <;> rfl

theorem clkLine_of_released (clk : (s.chan ch).clkPull = false) : s.clkLine ch = !(s.env.pulls ch).clk := by
  rw [State.clkLine, clk, Bool.false_or]

theorem datLine_of_released (dat : (s.chan ch).datPull = false) : s.datLine ch = !(s.env.pulls ch).dat := by
  rw [State.datLine, dat, Bool.false_or]

/-- The target sets its lines and the channel samples them. -/
theorem runSteps_pulls_sample {p d : Bool} (on : s.serviced ch = true) (clk : (s.chan ch).clkPull = false)
    (dat : (s.chan ch).datPull = false) (sched : s.sched = .env (.pulls ch ⟨p, !d⟩) :: .op (.ps2Sample ch) :: es) :
    ∃ t, (∀ n, runSteps (n + 2) s = runSteps n t) ∧ t.serviced ch = true ∧ t.sched = es ∧
      t.chan ch = (s.chan ch).sample (!p) d := by
  have chan : (s.withPulls ch ⟨p, !d⟩ es).chan ch = s.chan ch := withPulls_chan _
  have samples : step (s.withPulls ch ⟨p, !d⟩ (.op (.ps2Sample ch) :: es)) =
      .next ((s.withPulls ch ⟨p, !d⟩ es).setChan ch ((s.chan ch).sample (!p) d)) := by
    rw [step_of_op_enabled rfl rfl (stepEnabled_ps2Sample.trans ((withPulls_serviced _).trans on))]
    refine exec_ps2Sample_of (s := s.withPulls ch ⟨p, !d⟩ es) ((withPulls_serviced _).trans on) ?_
    rw [clkLine_of_released (chan ▸ clk), datLine_of_released (chan ▸ dat), chan, withPulls_pulls, Bool.not_not]
  refine ⟨(s.withPulls ch ⟨p, !d⟩ es).setChan ch ((s.chan ch).sample (!p) d), fun n => ?_, ?_, State.setChan_sched _ _ _,
    State.chan_setChan _ _ _⟩
  · rw [runSteps_succ _ _ (step_of_pulls sched), runSteps_succ _ _ samples]
  · rw [setChan_serviced, withPulls_serviced, on]

/-- The schedule of whole slots runs the receiver over them. -/
theorem runSteps_slots (w : BitVec 11) {ks : List Nat} (on : s.serviced ch = true) (h : (s.chan ch).Listening)
    (sched : s.sched = ks.flatMap (fun k => targetSlot ch (w.getLsbD k))) :
    ∃ t, runSteps (4 * ks.length) s = .next t ∧ t.sched = [] ∧ t.chan ch = (s.chan ch).slots w ks := by
  induction ks generalizing s with
  | nil => exact ⟨s, rfl, sched, rfl⟩
  | cons k ks ih =>
    obtain ⟨t, low, on_t, sched_t, chan_t⟩ := runSteps_pulls_sample on h.clk h.dat sched
    obtain ⟨clk, dat⟩ := h.sample_low_released (w.getLsbD k)
    obtain ⟨u, high, on_u, sched_u, chan_u⟩ := runSteps_pulls_sample on_t (chan_t ▸ clk) (chan_t ▸ dat) sched_t
    have slot : u.chan ch = (s.chan ch).slot (w.getLsbD k) := by rw [chan_u, chan_t]; rfl
    obtain ⟨v, run, sched_v, chan_v⟩ := ih on_u (slot ▸ h.slot _) sched_u
    refine ⟨v, ?_, sched_v, by rw [chan_v, slot]; rfl⟩
    calc runSteps (4 * ks.length + 2 + 2) s
      _ = runSteps (4 * ks.length + 2) t := low _
      _ = runSteps (4 * ks.length) u := high _
      _ = .next v := run

end

/-- Settles O40: the schedule is eleven slots (`runSteps_slots`), which leave what `PS2.RXFRAME` leaves
(`Channel.Listening.slots_eleven`); on the frame of a byte that is its delivery. -/
theorem targetFrameArrivesAsItsByte : Obligations.TargetFrameArrivesAsItsByte := by
  intro s ch w on quiet start sched
  obtain ⟨rx, tx, clk, dat, prev⟩ := quiet
  have listening : (s.chan ch).Listening := ⟨tx, clk, dat, prev⟩
  obtain ⟨t, run, done, slots⟩ := runSteps_slots w on listening (sched.trans (targetSends_eq ch w))
  have arrived : t.chan ch = { (s.chan ch).rxFrame w with rxShift := wireData w, rxPar := w.getLsbD 9 } :=
    slots.trans (listening.slots_eleven rx start)
  have rest : (s.chan ch).atRest = true := (s.chan ch).atRest_iff.mpr ⟨rx, tx⟩
  refine ⟨t, _, run, exec_ps2Rxframe on rest w, by rw [State.chan_setChan]; exact arrived, done, ?empty, ?full⟩
  case empty =>
    rintro b rfl empty
    rw [arrived, Channel.rxFrame_wire, Channel.rxDeliver_of_empty empty]
  case full =>
    rintro b rfl b' held
    rw [arrived, Channel.rxFrame_wire, Channel.rxDeliver_of_full (by simp [held])]
    exact ⟨held, rfl⟩

end Sys2Proof.Machine
end

section
/-! The transmit contract (44_ps2_transceiver.md R235, R257): while the target releases both lines the channel reads its own outputs, so
no collision occurs, and every two samples take a queued byte one slot on. -/

namespace Sys2Proof.Machine

/-! ### One sample of a channel that reads its own lines -/

/-- The channel in one phase of slot `k` of the frame of `b`, with `q` queued behind it (R245 to R248).  The clock was high in the
sample before, except where a slot before this one has just ended. -/
def Channel.sending (c : Channel) (b : Byte) (q : List Byte) (k : Fin 11) (ph : Phase) : Channel := { c with
  txq := q, txByte := b, txFsm := .txSlot k ph
  clkPull := ph == .low, datPull := !(wire b).getLsbD k.val
  clkPrev := ph == .low || k.val == 0 }

/-- `PS2.SAMPLE` with each line at the level that the channel itself gives it. -/
def Channel.sampleAlone (c : Channel) : Channel := c.sample (!c.clkPull) (!c.datPull)

section
variable {c : Channel} {b : Byte} {q : List Byte}

theorem Channel.not_collision_alone : ¬c.collision (!c.clkPull) (!c.datPull) = true := by
  simp [Channel.collision_iff]

theorem Channel.Quiet.sampleAlone (h : c.Quiet) (head : c.txq = b :: q) : c.sampleAlone = c.sending b q 0 .setup := by
  obtain ⟨rx, tx, clk, dat, prev⟩ := h
  have start : (wire b).getLsbD (0 : Fin 11).val = false := wire_start b
  rw [Channel.sampleAlone, clk, dat, Bool.not_false, Channel.sample_starts tx (Channel.rxStep_idle_clk_high rx) rx head prev,
    Channel.sending, start]
  rfl

theorem Channel.sampleAlone_setup (k : Fin 11) : (c.sending b q k .setup).sampleAlone = c.sending b q k .low := by
  rw [Channel.sampleAlone, Channel.sample_sending rfl, Channel.txStep_setup rfl Channel.not_collision_alone]
  rfl

theorem Channel.sampleAlone_low {k : Nat} (more : k + 1 < 11) :
    (c.sending b q ⟨k, by omega⟩ .low).sampleAlone = c.sending b q ⟨k + 1, more⟩ .setup := by
  have succ : (⟨k, by omega⟩ : Fin 11) + 1 = ⟨k + 1, more⟩ :=
    Fin.ext (Fin.val_add_one_of_lt (Fin.lt_def.mpr (by simp [Fin.last]; omega)))
  rw [Channel.sampleAlone, Channel.sample_sending rfl,
    Channel.txStep_low rfl Channel.not_collision_alone (show k < 10 by omega), succ]
  rfl

theorem Channel.Quiet.sampleAlone_last (h : c.Quiet) :
    (c.sending b q 10 .low).sampleAlone = { c with txq := q, txByte := b, clkPrev := false } := by
  obtain ⟨_, tx, clk, dat, _⟩ := h
  rw [Channel.sampleAlone, Channel.sample_sending rfl, Channel.txStep_low_last rfl Channel.not_collision_alone]
  simp [Channel.sending, tx, clk, dat]

end

/-! ### The samples of a whole frame -/

section
variable {s : State} {ch : Chan}

theorem clkLine_of_targetQuiet (quiet : s.targetQuiet ch) : s.clkLine ch = !(s.chan ch).clkPull := by
  rw [State.clkLine, quiet, Bool.or_false]

theorem datLine_of_targetQuiet (quiet : s.targetQuiet ch) : s.datLine ch = !(s.chan ch).datPull := by
  rw [State.datLine, quiet, Bool.or_false]

theorem setChan_targetQuiet (quiet : s.targetQuiet ch) (c : Channel) : (s.setChan ch c).targetQuiet ch := by
  rw [State.targetQuiet, State.setChan_env]
  exact quiet

theorem exec_ps2Sample_alone (on : s.serviced ch = true) (quiet : s.targetQuiet ch) (c : Channel) :
    exec (.ps2Sample ch) (s.setChan ch c) = .next (s.setChan ch c.sampleAlone) := by
  rw [exec_ps2Sample ((setChan_serviced c).trans on), clkLine_of_targetQuiet (setChan_targetQuiet quiet c),
    datLine_of_targetQuiet (setChan_targetQuiet quiet c), State.chan_setChan, State.setChan_setChan]
  rfl

/-- Samples of one channel alone, from the machine with any state of that channel. -/
theorem execAll_samples_alone (on : s.serviced ch = true) (quiet : s.targetQuiet ch) (n : Nat) (c : Channel) :
    execAll (List.replicate n (.ps2Sample ch)) (s.setChan ch c) = .next (s.setChan ch (Channel.sampleAlone^[n] c)) := by
  induction n generalizing c with
  | zero => rfl
  | succ n ih =>
    rw [List.replicate_succ, execAll_cons _ _ _ (exec_ps2Sample_alone on quiet c), ih, Function.iterate_succ_apply]

end

section
variable {c : Channel} {b : Byte} {q : List Byte}

/-- After an odd number of samples a slot is set up. -/
theorem Channel.Quiet.samples_setup (h : c.Quiet) (head : c.txq = b :: q) {k : Nat} (inside : k < 11) :
    Channel.sampleAlone^[2 * k + 1] c = c.sending b q ⟨k, inside⟩ .setup := by
  induction k with
  | zero => exact h.sampleAlone head
  | succ k ih =>
    rw [show 2 * (k + 1) + 1 = 2 * k + 1 + 1 + 1 by omega, Function.iterate_succ_apply', Function.iterate_succ_apply',
      ih (by omega), Channel.sampleAlone_setup, Channel.sampleAlone_low inside]

/-- One sample later its clock is low. -/
theorem Channel.Quiet.samples_low (h : c.Quiet) (head : c.txq = b :: q) (k : Fin 11) :
    Channel.sampleAlone^[2 * k.val + 2] c = c.sending b q k .low := by
  rw [Function.iterate_succ_apply', h.samples_setup head k.isLt, Channel.sampleAlone_setup]

theorem Channel.Quiet.samples_frame (h : c.Quiet) (head : c.txq = b :: q) :
    Channel.sampleAlone^[23] c = { c with txq := q, txByte := b, clkPrev := false } := by
  have low : Channel.sampleAlone^[22] c = c.sending b q 10 .low := h.samples_low head 10
  rw [Function.iterate_succ_apply', low, h.sampleAlone_last]

end

/-- Settles O41: `2k + 1` and `2k + 2` samples lead to the two phases of slot `k`, whose lines are the channel's own outputs. -/
theorem queuedByteLeavesAsItsFrame : Obligations.QueuedByteLeavesAsItsFrame := by
  intro s ch b q on idle head quiet
  have run (n : Nat) : execAll (List.replicate n (.ps2Sample ch)) s =
      .next (s.setChan ch (Channel.sampleAlone^[n] (s.chan ch))) := by
    simpa using execAll_samples_alone on quiet n (s.chan ch)
  have clk (c : Channel) : (s.setChan ch c).clkLine ch = !c.clkPull := by
    rw [clkLine_of_targetQuiet (setChan_targetQuiet quiet c), State.chan_setChan]
  have dat (c : Channel) : (s.setChan ch c).datLine ch = !c.datPull := by
    rw [datLine_of_targetQuiet (setChan_targetQuiet quiet c), State.chan_setChan]
  refine ⟨fun k => ⟨_, _, run _, run _, ?_⟩, by rw [run, idle.samples_frame head]⟩
  rw [idle.samples_setup head k.isLt, idle.samples_low head k]
  simp [clk, dat, Channel.sending]

end Sys2Proof.Machine
end

section
/-! The keyboard channel's logical layer (45_ps2_keyboard_commands.md): the row that a host byte decodes to and the byte's rule are
selected alike (R280); a reply and a key sequence are bytes offered to the keyboard queue (R293, R294). -/

namespace Sys2Proof.Machine

/-! ### A host byte and its row (R280) -/

/-- The row `i` answers the next state `t`. -/
def RunsTo (s : State) (i : Instr) (t : State) : Prop := exec i s = .next t

/-- `decodeHostByte` and `hostByte` test for an awaited parameter and compare the byte with the same codes in the same order, and
each selected row runs the rule selected with it. -/
theorem decodeHostByte_runsTo_hostByte (s : State) (b : Byte) : RunsTo s (decodeHostByte s.kbdPend.isSome b) (s.hostByte b) :=
  ite_related (fun _parameter => rfl) fun _ => ite_related (fun _reset => rfl) fun _ =>
  ite_related (fun _resend => rfl) fun _ => ite_related (fun _echo => rfl) fun _ =>
  ite_related (fun _identify => rfl) fun _ => ite_related (fun _setLeds => rfl) fun _ =>
  ite_related (fun _setTypematic => rfl) fun _ => ite_related (fun _enableScanning => rfl) fun _ =>
  ite_related (fun _disable => rfl) fun _ => ite_related (fun _default => rfl) fun _anyOther => rfl

theorem Channel.enqueue_rxLatch (depth : Nat) (c : Channel) (b : Byte) : (c.enqueue depth b).rxLatch = c.rxLatch := by
  unfold Channel.enqueue
  split <;> rfl

theorem State.kbdReply_rxLatch (s : State) (bs : List Byte) : (s.kbdReply bs).kbd.rxLatch = s.kbd.rxLatch := by
  induction bs generalizing s with
  | nil => rfl
  | cons b bs ih => exact (ih (s.enqueue .kbd b)).trans (Channel.enqueue_rxLatch _ _ _)

/-- Whatever a received byte's rule does, the latch and `MAIN`'s place stay as they are. -/
theorem KbdReplies.keeps {s t : State} (h : KbdReplies s t) : t.kbd.rxLatch = s.kbd.rxLatch ∧ t.loop = s.loop := by
  obtain ⟨bs, rfl | ⟨pend, rfl⟩⟩ := h
  all_goals exact ⟨s.kbdReply_rxLatch bs, s.kbdReply_loop bs⟩

theorem hostByte_rxLatch (s : State) (b : Byte) : (s.hostByte b).kbd.rxLatch = s.kbd.rxLatch :=
  (hostByte_replies s b).keeps.1

theorem hostByte_loop (s : State) (b : Byte) : (s.hostByte b).loop = s.loop := (hostByte_replies s b).keeps.2

/-- The state in which the keyboard channel's byte has been taken (R244). -/
def State.latchTaken (s : State) : State := { s with kbd := { s.kbd with rxLatch := none } }

theorem exec_kbdHostbyte {s : State} {b : Byte} (full : s.kbd.rxLatch = some b) :
    exec .kbdHostbyte s = .next (s.latchTaken.hostByte b) := by
  simp only [exec, execKbdHostbyte, full]
  rfl

/-- Settles O46: both answer the byte's rule on the state whose latch is empty, and no rule fills it. -/
theorem hostByteRunsTheDecodedRow : Obligations.HostByteRunsTheDecodedRow := fun s b full =>
  ⟨s.latchTaken.hostByte b, exec_kbdHostbyte full, decodeHostByte_runsTo_hostByte s.latchTaken b,
    hostByte_rxLatch s.latchTaken b⟩

/-! ### `MAIN` at the keyboard channel (R373) -/

theorem step_of_main_ps2Kbd {s : State} (main : s.nextEvent = .main) (place : s.loop = .ps2Kbd)
    (on : s.serviced .kbd = true) : step s = mapNext State.advance (exec .kbdHostbyte s.popEvent.settle) := by
  have on' : s.popEvent.settle.serviced .kbd = true := on
  have place' : s.popEvent.settle.loop = .ps2Kbd := place
  simp only [step, main, runEvent, State.mainStep, State.loopInstr, place', on', if_true]

/-- Settles O15: the place's step is `KBD.HOSTBYTE`, which runs the decoded row and leaves `MAIN`'s place to the loop. -/
theorem stepRunsTheHostByte : Obligations.StepRunsTheHostByte := by
  intro s b i main place on full decoded
  cases decoded
  let s' := s.popEvent.settle
  have runs : exec .kbdHostbyte s' = .next (s'.latchTaken.hostByte b) := exec_kbdHostbyte full
  have here : (s'.latchTaken.hostByte b).loop = .ps2Kbd := (hostByte_loop _ b).trans place
  refine ⟨_, decodeHostByte_runsTo_hostByte s'.latchTaken b, ?_⟩
  rw [step_of_main_ps2Kbd main place on, runs, mapNext_next, State.advance, here, LoopPos.succ]

/-! ### Replies (R281 to R293) -/

theorem State.room_of_le {s : State} {ch : Chan} {n k : Nat} (room : s.room ch n) (few : k ≤ n) : s.room ch k :=
  (Nat.add_le_add_left few _).trans room

/-- With room for all of them, the bytes are appended and no flag moves. -/
theorem State.offered_of_room {s : State} {ch : Chan} {bs : List Byte} {n : Nat} (room : s.room ch n) (few : bs.length ≤ n) :
    s.offered ch bs = s.queued ch bs := by
  rw [← State.enqueueAll_offered (Nat.le_of_add_right_le room), State.enqueueAll_room (State.room_of_le room few)]

theorem State.kbdReply_offered {s : State} (bound : s.kbd.txq.length ≤ s.cfg.ps2TxqDepth) (bs : List Byte) :
    s.kbdReply bs = s.offered .kbd bs := State.enqueueAll_offered bound

/-- Settles O44: each row but Resend is a reply, offered to the queue. -/
theorem keyboardReplies : Obligations.KeyboardReplies := by
  intro s b bound
  have replies {i : Instr} {bs : List Byte} (row : exec i s = .next (s.kbdReply bs)) :
      exec i s = .next (s.offered .kbd bs) := by rw [row, State.kbdReply_offered bound]
  exact ⟨replies rfl, rfl, replies rfl, replies rfl, replies rfl, replies rfl, replies rfl, replies rfl,
    fun room _ few => State.offered_of_room room few⟩

/-- Settles O45: each row is a reply, perhaps an empty one, and a write of `kbd_pend`. -/
theorem twoByteHostCommands : Obligations.TwoByteHostCommands := by
  intro s b bound
  have replies {i : Instr} {bs : List Byte} {pend : Option Pending}
      (row : exec i s = .next { s.kbdReply bs with kbdPend := pend }) :
      exec i s = .next { s.offered .kbd bs with kbdPend := pend } := by rw [row, State.kbdReply_offered bound]
  have parameter : exec (.kbdParameterByte b) s =
      .next { s.kbdReply (if s.cfg.ps2AckParam then [0xFA#8] else []) with kbdPend := none } := rfl
  refine ⟨replies rfl, replies rfl, fun acks => ?acknowledged, fun silent => ?silent,
    fun room => State.offered_of_room room le_rfl⟩
  case acknowledged =>
    rw [if_pos acks] at parameter
    exact replies parameter
  case silent =>
    rw [if_neg (by simp [silent])] at parameter
    exact parameter

/-! ### Key sequences (R294 to R296) -/

section
variable {p : Params} {code : Byte}

/-- R296: a special key has its own sequence. -/
theorem keySequence_of_special {pressed : Bool} {bs : List Byte} (special : code ∈ p.ps2Special)
    (listed : p.ps2SpecialSeq.lookup (code, pressed) = some bs) : keySequence p code pressed = bs := by
  simp [keySequence, special, specialSeqOf, listed]

theorem keySequence_of_no_entry (ordinary : code ∉ p.ps2Special) (missing : p.ps2Scancode.lookup code = none)
    (pressed : Bool) : keySequence p code pressed = [] := by
  simp [keySequence, ordinary, scancodeOf, missing]

/-- R95, R294: `[0xE0]? [0xF0]? code`. -/
theorem keySequence_of_entry {sc : Byte} (ordinary : code ∉ p.ps2Special) (entry : p.ps2Scancode.lookup code = some sc)
    (pressed : Bool) : keySequence p code pressed =
      (if code ∈ p.ps2Extended then [0xE0#8] else []) ++ (if pressed then [] else [0xF0#8]) ++ [sc] := by
  simp [keySequence, ordinary, scancodeOf, entry]

end

/-- `KBD.KEYSEQ` where its bytes, known to be `bs`, all fit. -/
theorem exec_kbdKeyseq_of_room {s : State} {code : Byte} {pressed : Bool} {bs : List Byte} {n : Nat} (room : s.room .kbd n)
    (sequence : keySequence s.cfg code pressed = bs) (few : bs.length ≤ n) :
    exec (.kbdKeyseq code pressed) s = .next (s.queued .kbd bs) := by
  rw [exec_kbdKeyseq, State.keyseq, sequence, State.enqueueAll_room (State.room_of_le room few)]

/-- Settles O48: the three kinds of keys; an ordinary key's sequence has at most three bytes. -/
theorem keySequences : Obligations.KeySequences := by
  intro s code sc
  refine ⟨fun ordinary entry room => ?ordinary, fun ordinary missing pressed => ?noEntry,
    fun special pressed bs listed room => ?special⟩
  case ordinary =>
    have sequence := keySequence_of_entry ordinary entry
    refine ⟨fun base => ?_, fun base => ?_, fun extended => ?_, fun extended => ?_⟩
    · exact exec_kbdKeyseq_of_room room (by simp [sequence, base]) (by simp)
    · exact exec_kbdKeyseq_of_room room (by simp [sequence, base]) (by simp)
    · exact exec_kbdKeyseq_of_room room (by simp [sequence, extended]) (by simp)
    · exact exec_kbdKeyseq_of_room room (by simp [sequence, extended]) (by simp)
  case noEntry =>
    rw [exec_kbdKeyseq, State.keyseq, keySequence_of_no_entry ordinary missing, State.enqueueAll_nil]
  case special => exact exec_kbdKeyseq_of_room room (keySequence_of_special special listed) le_rfl

/-- R186: a `key_event` request to a PS/2 keyboard appends the key's bytes after the driver call. -/
theorem exec_keyEvent_of_room {s : State} {m code pressed : Byte} {bs : List Byte} {n : Nat} (wf : s.cfg.WF)
    (lets : s.accepts m) (ps2 : s.env.kbdKind = .ps2Keyboard) (room : s.room .kbd n)
    (sequence : keySequence s.cfg code (decide (pressed ≠ 0#8)) = bs) (few : bs.length ≤ n) (x2 x3 : Byte) :
    ∃ t, exec (.keyEvent m code pressed x2 x3) s = .next t ∧ t.kbd.txq = s.kbd.txq ++ bs := by
  obtain ⟨-, -, request⟩ := keyboardCommandsCallTheirDrivers s m code pressed 0#8 0#8 x2 x3 wf lets
  obtain ⟨u, keyseq, answered⟩ := request ps2
  cases keyseq.symm.trans (exec_kbdKeyseq_of_room room sequence few)
  exact ⟨_, answered, rfl⟩

/-- R295: the left-arrow key is an ordinary extended key with the code 0x6B. -/
theorem keySequence_leftArrow {p : Params} (wf : p.WF) (pressed : Bool) :
    keySequence p p.hidLeftArrow pressed = [0xE0#8] ++ (if pressed then [] else [0xF0#8]) ++ [0x6B#8] := by
  obtain ⟨-, -, -, -, -, -, entry, extended, ordinary⟩ := wf
  rw [keySequence_of_entry ordinary entry, if_pos extended]

/-- Settles O49: the same two sequences, directly and by request. -/
theorem leftArrowSequences : Obligations.LeftArrowSequences := by
  intro s m x2 x3 wf room ps2 lets
  have press : keySequence s.cfg s.cfg.hidLeftArrow true = [0xE0#8, 0x6B#8] := keySequence_leftArrow wf true
  have release : keySequence s.cfg s.cfg.hidLeftArrow false = [0xE0#8, 0xF0#8, 0x6B#8] := keySequence_leftArrow wf false
  exact ⟨exec_kbdKeyseq_of_room room press (by simp), exec_kbdKeyseq_of_room room release (by simp),
    exec_keyEvent_of_room wf lets ps2 room press (by simp) x2 x3,
    exec_keyEvent_of_room wf lets ps2 room release (by simp) x2 x3⟩

end Sys2Proof.Machine
end

section
/-! The persisted record (46_storage_record.md): every row that writes it is one `REC.WRITE` of a byte that the record's validity
decides, and the boot sequence runs on what `REC.INIT` resolves. -/

namespace Sys2Proof.Machine

/-! ### The operations as writes (R313 to R316) -/

section
variable {s : State}

/-- A write sets the CRC register itself, so it does not matter what a reading before it left there. -/
theorem recWrite_setCrc (s : State) (c : Word) (v : Byte) : ({ s with crc := c } : State).recWrite v = s.recWrite v := rfl

theorem recUpdate_force (s : State) (mask bits : Byte) : s.recUpdate mask bits true = s.recWrite (bits &&& mask) := if_pos rfl

/-- R314: an update without `force` starts from the stored selection. -/
theorem State.StoredSelection.recUpdate {old : Byte} (stored : s.StoredSelection old) (mask bits : Byte) :
    s.recUpdate mask bits false = s.recWrite ((old &&& ~~~mask) ||| (bits &&& mask)) := by
  obtain ⟨c, o, read, rfl⟩ := stored.recRead
  rw [State.recUpdate, read, if_neg Bool.false_ne_true, recWrite_setCrc]

theorem recUpdate_valid (valid : s.recordValid) (mask bits : Byte) :
    s.recUpdate mask bits false = s.recWrite ((s.nv.b1 &&& ~~~mask) ||| (bits &&& mask)) :=
  State.StoredSelection.recUpdate ⟨fun _ => rfl, fun absent => absurd valid absent⟩ mask bits

theorem recUpdate_invalid (absent : ¬s.recordValid) (mask bits : Byte) :
    s.recUpdate mask bits false = s.recWrite (bits &&& mask) := by
  have stored : s.StoredSelection 0#8 := ⟨fun valid => absurd valid absent, fun _ => rfl⟩
  rw [stored.recUpdate, BitVec.zero_and, BitVec.zero_or]

/-- The compiled-in default, as `REC.INIT` writes it (R316). -/
def State.defaultSelection (s : State) : Byte := s.cfg.defaultOutputs &&& (s.cfg.bkKbdMask ||| s.cfg.bkMouseMask)

theorem recInit_valid (valid : s.recordValid) : ∃ c, s.recInit = ({ s with crc := c }, s.nv.b1) := by
  rw [State.recInit, recRead_valid valid]
  exact ⟨_, rfl⟩

theorem recInit_invalid (absent : ¬s.recordValid) : s.recInit = (s.recWrite s.defaultSelection, s.defaultSelection) := by
  obtain ⟨c, read⟩ := recRead_invalid absent
  rw [State.recInit, read]
  rfl

/-! ### The rows -/

theorem exec_recRead (s : State) : exec .recRead s = .next { s.recRead.1 with result := .outputs s.recRead.2 } := rfl

theorem exec_recUpdate (mask bits : Byte) (force : Bool) (s : State) :
    exec (.recUpdate mask bits force) s = .next (s.recUpdate mask bits force) := rfl

theorem exec_recInit (s : State) : exec .recInit s = .next { s.recInit.1 with result := .byte s.recInit.2 } := rfl

theorem exec_recRead_valid (valid : s.recordValid) :
    ∃ c, exec .recRead s = .next { s with crc := c, result := .outputs (some s.nv.b1) } := by
  rw [exec_recRead, recRead_valid valid]
  exact ⟨_, rfl⟩

theorem exec_recRead_invalid (absent : ¬s.recordValid) :
    ∃ c, exec .recRead s = .next { s with crc := c, result := .outputs none } := by
  obtain ⟨c, read⟩ := recRead_invalid absent
  rw [exec_recRead, read]
  exact ⟨c, rfl⟩

/-- What a row that amounts to a `REC.WRITE` leaves, whatever the CRC register then holds (R313, R318). -/
theorem exec_eq_of_recWrite {i : Instr} {v : Byte} (run : exec i s = .next (s.recWrite v)) : ∃ c, exec i s = .next { s with
    nv := s.record v, crc := c, nvTorn := if s.cfg.nvWriteAtomic then s.nvTorn else some s.nv } :=
  ⟨_, run.trans (congrArg _ (recWrite_eq s v))⟩

end

/-- Settles O50: a reading is decided by R311; each of the four writing forms is a `REC.WRITE`, whose effect is `recWrite_eq`. -/
theorem recordReadWriteUpdate : Obligations.RecordReadWriteUpdate := by
  intro s v mask bits
  refine ⟨exec_recRead_valid, exec_recRead_invalid, exec_eq_of_recWrite rfl, exec_eq_of_recWrite ?force,
    fun valid => exec_eq_of_recWrite ?valid, fun absent => exec_eq_of_recWrite ?absent⟩
  case force => rw [exec_recUpdate, recUpdate_force]
  case valid => rw [exec_recUpdate, recUpdate_valid valid]
  case absent => rw [exec_recUpdate, recUpdate_invalid absent]

/-- Settles O51: without a valid record `REC.INIT` is the `REC.WRITE` of the default. -/
theorem recordInitResolves : Obligations.RecordInitResolves := by
  intro s
  refine ⟨fun valid => ?valid, fun absent => ?absent⟩
  case valid =>
    obtain ⟨c, init⟩ := recInit_valid valid
    rw [exec_recInit, init]
    exact ⟨c, rfl⟩
  case absent =>
    rw [exec_recInit, recInit_invalid absent]
    exact ⟨_, rfl⟩

/-! ### Two selections in one byte (R317) -/

theorem update_and_self (old bits m : Byte) : ((old &&& ~~~m) ||| (bits &&& m)) &&& m = bits &&& m := by
  rw [BitVec.and_or_distrib_right, and_and_eq_zero_of_disjoint (BitVec.not_and_self m), BitVec.zero_or, BitVec.and_assoc,
    BitVec.and_self]

theorem not_and_of_disjoint {m n : Byte} (away : m &&& n = 0#8) : ~~~m &&& n = n := by
  calc ~~~m &&& n
    _ = (~~~m &&& n) ||| (m &&& n) := by rw [away, BitVec.or_zero]
    _ = (~~~m ||| m) &&& n := BitVec.and_or_distrib_right.symm
    _ = n := by rw [BitVec.not_or_self, BitVec.allOnes_and]

theorem update_and_disjoint {m n : Byte} (away : m &&& n = 0#8) (old bits : Byte) :
    ((old &&& ~~~m) ||| (bits &&& m)) &&& n = old &&& n := by
  rw [BitVec.and_or_distrib_right, and_and_eq_zero_of_disjoint away, BitVec.or_zero, BitVec.and_assoc,
    not_and_of_disjoint away]

/-- An update under a mask `m` and what it leaves under a mask `n` that shares no bit with it. -/
theorem exec_recUpdate_disjoint {s : State} {m n : Byte} (valid : s.recordValid) (away : m &&& n = 0#8) (bits : Byte) :
    ∃ t, exec (.recUpdate m bits false) s = .next t ∧ t.recordValid ∧
      t.nv.b1 &&& n = s.nv.b1 &&& n ∧ t.nv.b1 &&& m = bits &&& m := by
  rw [exec_recUpdate, recUpdate_valid valid]
  exact ⟨_, rfl, recWrite_recordValid s _, update_and_disjoint away _ _, update_and_self _ _ _⟩

/-- Settles O52: under R9 the two masks share no bit. -/
theorem selectionsAreIndependent : Obligations.SelectionsAreIndependent := by
  intro s bits wf valid
  obtain ⟨away, -, -⟩ := backendMasks_disjoint wf
  exact ⟨exec_recUpdate_disjoint valid away bits, exec_recUpdate_disjoint valid (BitVec.and_comm _ _ ▸ away) bits⟩

/-! ### A damaged record and the boot after it (T4, R371) -/

section
variable {s : State}

theorem crcBlock_zero : crcBlock [0#8, 0#8, 0#8, 0#8, 0#8, 0#8] = 0x1B00#16 := by
  simp [crcBlock, crcByte, crcBit, crcSeed, crcPoly, zext16]

theorem crcBlock_erased : crcBlock [0xFF#8, 0xFF#8, 0xFF#8, 0xFF#8, 0xFF#8, 0xFF#8] = 0x9401#16 := by
  simp [crcBlock, crcByte, crcBit, crcSeed, crcPoly, zext16]

/-- Whatever the magic byte is, eight zero bytes do not carry their own CRC (R141). -/
theorem not_recordValid_of_zero (cleared : s.nv = ⟨0#8, 0#8, 0#8, 0#8, 0#8, 0#8, 0#8, 0#8⟩) : ¬s.recordValid := by
  rintro ⟨-, crc⟩
  rw [cleared, crcBlock_zero] at crc
  exact absurd crc (by decide)

theorem not_recordValid_of_erased (erased : s.nv = ⟨0xFF#8, 0xFF#8, 0xFF#8, 0xFF#8, 0xFF#8, 0xFF#8, 0xFF#8, 0xFF#8⟩) :
    ¬s.recordValid := by
  rintro ⟨-, crc⟩
  rw [erased, crcBlock_erased] at crc
  exact absurd crc (by decide)

theorem not_recordValid_of_magic (other : s.nv.b0 ≠ s.cfg.storageMagic) : ¬s.recordValid := fun valid => other valid.1

theorem exec_recRead_absent (absent : ¬s.recordValid) :
    ∃ t, exec .recRead s = .next t ∧ t.result = .outputs none ∧ t.nv = s.nv := by
  obtain ⟨c, run⟩ := exec_recRead_invalid absent
  exact ⟨_, run, rfl, rfl⟩

theorem step_of_main_boot (main : s.nextEvent = .main) (place : s.loop = .boot) : step s = .next s.popEvent.settle.boot := by
  have place' : s.popEvent.settle.loop = .boot := place
  simp only [step, main, runEvent, State.mainStep, place']

theorem boot_nv (s : State) : s.boot.nv = s.recInit.1.nv := by simp [boot_eq]

theorem boot_recordValid (init : s.recInit.1.recordValid) : s.boot.recordValid := by
  rw [boot_eq]
  exact init

theorem boot_backends (s : State) :
    s.boot.env.kbdBackend = s.recInit.2 &&& s.cfg.bkKbdMask ∧ s.boot.env.mouseBackend = s.recInit.2 &&& s.cfg.bkMouseMask := by
  rw [boot_eq]
  exact ⟨rfl, rfl⟩

/-- Booting without a valid record stores the default and runs on it. -/
theorem boot_invalid (absent : ¬s.recordValid) : s.boot.recordValid ∧ s.boot.nv.b1 = s.defaultSelection ∧
    s.boot.env.kbdBackend = s.boot.nv.b1 &&& s.cfg.bkKbdMask ∧ s.boot.env.mouseBackend = s.boot.nv.b1 &&& s.cfg.bkMouseMask := by
  have init := recInit_invalid absent
  have stored : s.boot.nv.b1 = s.defaultSelection := by rw [boot_nv, init]; rfl
  obtain ⟨kbd, mouse⟩ := boot_backends s
  rw [init] at kbd mouse
  rw [stored]
  exact ⟨boot_recordValid (by rw [init]; exact recWrite_recordValid s _), rfl, kbd, mouse⟩

/-- Booting on a valid record does not write. -/
theorem boot_nv_of_valid (valid : s.recordValid) : s.boot.nv = s.nv := by
  obtain ⟨c, init⟩ := recInit_valid valid
  rw [boot_nv, init]

end

/-- Settles O53: the three contents fail R311, so they read as absent; the boot step is the boot sequence on a state that holds the
same record. -/
theorem corruptRecordRecovers : Obligations.CorruptRecordRecovers := by
  intro s
  refine ⟨fun damaged => ?reads, fun absent main place => ?writes, fun valid main place => ?keeps⟩
  case reads =>
    obtain cleared | erased | other := damaged
    · exact exec_recRead_absent (not_recordValid_of_zero cleared)
    · exact exec_recRead_absent (not_recordValid_of_erased erased)
    · exact exec_recRead_absent (not_recordValid_of_magic other)
  case writes => exact ⟨_, step_of_main_boot main place, boot_invalid (s := s.popEvent.settle) absent⟩
  case keeps => exact ⟨_, step_of_main_boot main place, boot_nv_of_valid (s := s.popEvent.settle) valid⟩

end Sys2Proof.Machine
end

section
/-! Resets, the main loop and the interrupt contexts (60_exceptions.md, 70_reset_and_hazards.md): what an interrupt operation may
write, that every row answers a next state, and what `MAIN`'s step is at each of its places, at boot and after a restart. -/

namespace Sys2Proof.Machine

/-! ### Interrupt context (R341, R350) -/

/-- The outputs of the agents in interrupt context: the byte shifted out (R166) and, at the byte level, a wire frame (R257). -/
def IsInterruptOutput (x : Output) : Prop := (∃ b, x = .spiOut b) ∨ ∃ ch w, x = .wireFrame ch w

/-- `s` with everything that an interrupt routine shares with the rest taken from `t` (R74): the receive buffer, the SPI buffer,
the channels, the outputs, and of the environment the timeout input alone. -/
def State.withBuffersOf (s t : State) : State := { s with
  rxBuf := t.rxBuf
  rxIdx := t.rxIdx
  rxOverrunFrame := t.rxOverrunFrame
  spiOut := t.spiOut
  spiOidx := t.spiOidx
  kbd := t.kbd
  mouse := t.mouse
  out := t.out
  env := { s.env with timeoutElapsed := t.env.timeoutElapsed } }

/-- `t` differs from `s` in those buffers only, and what was put out on the way came from an interrupt routine. -/
structure StaysInBuffers (s t : State) : Prop where
  buffers : t = s.withBuffersOf t
  outputs : ∃ o : List Output, t.out = s.out ++ o ∧ ∀ x ∈ o, IsInterruptOutput x

section
variable {s t : State}

theorem StaysInBuffers.of_silent (buffers : t = s.withBuffersOf t) (silent : t.out = s.out) : StaysInBuffers s t :=
  ⟨buffers, [], by simp [silent], by simp⟩

theorem StaysInBuffers.of_output {x : Output} (buffers : t = s.withBuffersOf t) (output : t.out = s.out ++ [x])
    (allowed : IsInterruptOutput x) : StaysInBuffers s t :=
  ⟨buffers, [x], output, by simpa using allowed⟩

theorem StaysInBuffers.refl (s : State) : StaysInBuffers s s := .of_silent rfl rfl

theorem StaysInBuffers.setChan (s : State) (ch : Chan) (c : Channel) : StaysInBuffers s (s.setChan ch c) :=
  .of_silent (by cases ch <;> rfl) (by simp)

theorem StaysInBuffers.frameRxbyte {b : Byte} (run : exec (.frameRxbyte b) s = .next t) : StaysInBuffers s t := by
  cases run
  split
  · split <;> exact .of_silent rfl rfl
  · exact .refl s

theorem spiReceive_buffers (s : State) (b : Byte) : s.spiReceive b = s.withBuffersOf (s.spiReceive b) := by
  unfold State.spiReceive
  split <;> rfl

theorem StaysInBuffers.spiExchange {b : Byte} (run : exec (.spiExchange b) s = .next t) : StaysInBuffers s t := by
  cases run
  split
  · split
    · split <;> exact .of_output rfl rfl (.inl ⟨_, rfl⟩)
    · exact .of_output (congrArg (fun u : State => { u with out := s.out ++ [Output.spiOut 0#8] }) (spiReceive_buffers s b)) rfl
        (.inl ⟨_, rfl⟩)
  · exact .refl s

theorem StaysInBuffers.ps2Sample {ch : Chan} (run : exec (.ps2Sample ch) s = .next t) : StaysInBuffers s t := by
  cases run
  split
  · exact .setChan s ch _
  · exact .refl s

theorem StaysInBuffers.ps2Rxframe {ch : Chan} {w : BitVec 11} (run : exec (.ps2Rxframe ch w) s = .next t) :
    StaysInBuffers s t := by
  cases run
  split
  · exact .setChan s ch _
  · exact .refl s

theorem StaysInBuffers.ps2Txframe {ch : Chan} (run : exec (.ps2Txframe ch) s = .next t) : StaysInBuffers s t := by
  cases run
  split
  · split
    · exact .refl s
    · exact .of_output (by cases ch <;> rfl) rfl (.inr ⟨_, _, rfl⟩)
  · exact .refl s

theorem StaysInBuffers.interrupt {i : Instr} (row : IsInterruptRow i) (run : exec i s = .next t) : StaysInBuffers s t := by
  obtain ⟨b, rfl⟩ | ⟨b, rfl⟩ | ⟨ch, rfl⟩ | ⟨ch, w, rfl⟩ | ⟨ch, rfl⟩ := row
  · exact .frameRxbyte run
  · exact .spiExchange run
  · exact .ps2Sample run
  · exact .ps2Rxframe run
  · exact .ps2Txframe run

end

/-- Settles O59: a state that differs in the interrupt routines' buffers only has every other field of the old one. -/
theorem interruptStepsStayInTheirBuffers : Obligations.InterruptStepsStayInTheirBuffers := by
  intro i s t row run
  obtain ⟨buffers, outputs⟩ := StaysInBuffers.interrupt row run
  have same {α : Type} (f : State → α) : f t = f (s.withBuffersOf t) := congrArg f buffers
  exact ⟨same State.crc, same State.lastResp, same State.lastValid, same State.nv, same State.resetRequired, same State.req,
    same State.disp, same State.kbdPend, same State.cfg,
    same fun u => { u.env with timeoutElapsed := s.env.timeoutElapsed }, outputs⟩

/-! ### No instruction stops (R338, R374) -/

/-- Settles O18: the arm of each row is a next state, with every test inside it. -/
theorem noInstructionStops : Obligations.NoInstructionStops := by
  intro i s
  cases i <;> exact ⟨_, rfl⟩

/-! ### The places of the main loop (R373) -/

section
variable {s t : State} {i : Instr}

theorem exec_frameTimeout_loop (run : exec .frameTimeout s = .next t) : t.loop = s.loop := by
  cases run
  split <;> rfl

theorem exec_frameTake_loop (run : exec .frameTake s = .next t) : t.loop = s.loop := by
  cases run
  split <;> rfl

theorem exec_dispatch_loop (run : exec .dispatch s = .next t) : t.loop = s.loop := by
  cases run
  split
  · split
    · rfl
    · exact (DispatchLeaves.dispatchReq s _).loop
  · rfl

theorem exec_frameEmit_loop (run : exec .frameEmit s = .next t) : t.loop = s.loop := by
  cases run
  split
  · split
    · rfl
    · split <;> rfl
  · rfl

theorem exec_kbdHostbyte_loop (run : exec .kbdHostbyte s = .next t) : t.loop = s.loop := by
  cases run
  split
  · rfl
  · exact hostByte_loop _ _

theorem exec_ps2Take_loop {ch : Chan} (run : exec (.ps2Take ch) s = .next t) : t.loop = s.loop := by
  cases run
  split
  · rfl
  · exact State.setChan_loop s ch _

/-- R373: the rows of the loop body. -/
theorem loopInstr_mem (place : s.loopInstr = some i) :
    i ∈ [Instr.frameTimeout, .frameTake, .dispatch, .frameEmit, .kbdHostbyte, .ps2Take .mouse] := by
  unfold State.loopInstr at place
  split at place <;> grind

/-- No place's row moves `MAIN`: going on is the loop's own doing. -/
theorem exec_loopInstr_loop (place : s.loopInstr = some i) (run : exec i s = .next t) : t.loop = s.loop := by
  have rows := loopInstr_mem place
  simp only [List.mem_cons, List.not_mem_nil, or_false] at rows
  obtain rfl | rfl | rfl | rfl | rfl | rfl := rows
  · exact exec_frameTimeout_loop run
  · exact exec_frameTake_loop run
  · exact exec_dispatch_loop run
  · exact exec_frameEmit_loop run
  · exact exec_kbdHostbyte_loop run
  · exact exec_ps2Take_loop run

/-- Only the two places without a row are treated apart by `MAIN`. -/
theorem mainStep_of_loopInstr (place : s.loopInstr = some i) : s.mainStep = mapNext State.advance (exec i s) := by
  unfold State.mainStep
  split
  · next boot => simp [State.loopInstr, boot] at place
  · next periodic => simp [State.loopInstr, periodic] at place
  · rw [place]

/-- At a place of the loop body with a row, the step runs that row and `MAIN` goes on to the next place. -/
theorem step_of_main_runs {l : LoopPos} (main : s.nextEvent = .main) (place : s.popEvent.settle.loopInstr = some i)
    (succ : s.loop.succ = l) : ∃ t, exec i s.popEvent.settle = .next t ∧ step s = .next { t with loop := l } := by
  obtain ⟨t, run⟩ := noInstructionStops i s.popEvent.settle
  have here : t.loop = s.loop := exec_loopInstr_loop (s := s.popEvent.settle) place run
  refine ⟨t, run, ?_⟩
  rw [step, main, runEvent, mainStep_of_loopInstr place, run, mapNext_next, State.advance, here, succ]

/-- At a channel that is not serviced `MAIN` only goes on (R233). -/
theorem mainStep_of_no_loopInstr (boot : s.loop ≠ .boot) (periodic : s.loop ≠ .periodic) (off : s.loopInstr = none) :
    s.mainStep = .next s.advance := by
  unfold State.mainStep
  split
  · next here => exact absurd here boot
  · next here => exact absurd here periodic
  · rw [off]

theorem step_of_main_passes {l : LoopPos} (main : s.nextEvent = .main) (boot : s.loop ≠ .boot) (periodic : s.loop ≠ .periodic)
    (off : s.popEvent.settle.loopInstr = none) (succ : s.loop.succ = l) :
    step s = .next { s.popEvent.settle with loop := l } := by
  rw [step, main, runEvent, mainStep_of_no_loopInstr (s := s.popEvent.settle) boot periodic off, ← succ]
  rfl

theorem step_of_main_periodic (main : s.nextEvent = .main) (place : s.loop = .periodic) :
    step s = .next (s.popEvent.settle.call .kbdPeriodic).advance := by
  have place' : s.popEvent.settle.loop = .periodic := place
  simp only [step, main, runEvent, State.mainStep, place']

/-- The row of a place depends on the place and the drivers only, not on what a step does before it runs the row. -/
theorem loopInstr_at {l : LoopPos} (place : s.loop = l) :
    s.popEvent.settle.loopInstr = ({ s with loop := l } : State).loopInstr := by
  subst place
  rfl

end

/-- Settles O17: the loop body's rows are `loopInstr`, the order is `LoopPos.succ`, and no row moves `MAIN` itself. -/
theorem mainLoopTakesItsPlacesInOrder : Obligations.MainLoopTakesItsPlacesInOrder := by
  intro s main
  have runs {l : LoopPos} {i : Instr} (place : s.loop = l) (row : ({ s with loop := l } : State).loopInstr = some i) :=
    step_of_main_runs main ((loopInstr_at place).trans row) (congrArg LoopPos.succ place)
  have passes {l : LoopPos} (place : s.loop = l) (boot : l ≠ .boot) (periodic : l ≠ .periodic)
      (off : ({ s with loop := l } : State).loopInstr = none) :=
    step_of_main_passes main (place.trans_ne boot) (place.trans_ne periodic) ((loopInstr_at place).trans off)
      (congrArg LoopPos.succ place)
  refine ⟨fun place => ?periodic, fun place => runs place rfl, fun place => runs place rfl, fun place => runs place rfl,
    fun place => runs place rfl, fun place on => runs place (if_pos on), fun place on => runs place (if_pos on),
    fun place off => passes place nofun nofun (if_neg (Bool.eq_false_iff.mp off)),
    fun place off => passes place nofun nofun (if_neg (Bool.eq_false_iff.mp off))⟩
  rw [step_of_main_periodic main place, State.advance, State.call_loop, State.settle_loop, State.popEvent_loop, place]
  rfl

/-! ### Boot (R371) -/

theorem boot_out (s : State) : s.boot.out = s.out ++ [.call .kbdBegin, .call .mouseBegin] := by simp [boot_eq]

/-- R371: booting reads no byte and sends none. -/
theorem boot_keeps (s : State) :
    s.boot.kbd = s.kbd ∧ s.boot.mouse = s.mouse ∧ s.boot.rxIdx = s.rxIdx ∧ s.boot.disp = s.disp := by
  simp [boot_eq]

/-- Boot step 2: each driver is the one of its selection. -/
theorem boot_kinds (s : State) : s.boot.env.kbdKind = keyboardKindOf s.cfg s.boot.env.kbdBackend ∧
    s.boot.env.mouseKind = mouseKindOf s.cfg s.boot.env.mouseBackend := by
  rw [boot_eq]
  exact ⟨rfl, rfl⟩

theorem keyboardKindOf_none (p : Params) : keyboardKindOf p p.kbdNone = .dummy := if_pos rfl

theorem mouseKindOf_none (p : Params) : mouseKindOf p p.mouseNone = .dummy := if_pos rfl

section
variable {p : Params}

/-- R9: a selection names one driver, so the PS/2 one is no other. -/
theorem kbdPs2_ne (wf : p.WF) : p.kbdPs2 ≠ p.kbdNone ∧ p.kbdPs2 ≠ p.kbdUsb := by
  obtain ⟨-, -, ⟨-, -, -, distinct, -⟩, -⟩ := wf
  simp only [Params.kbdValues, List.nodup_cons, List.mem_cons, not_or] at distinct
  obtain ⟨⟨-, none, -⟩, ⟨usb, -⟩, -⟩ := distinct
  exact ⟨Ne.symm none, Ne.symm usb⟩

theorem mousePs2_ne (wf : p.WF) :
    p.mousePs2 ≠ p.mouseNone ∧ p.mousePs2 ≠ p.mouseUsbAbs ∧ p.mousePs2 ≠ p.mouseUsbCompat ∧ p.mousePs2 ≠ p.mouseUsbRel := by
  obtain ⟨-, -, ⟨-, -, -, -, distinct⟩, -⟩ := wf
  simp only [Params.mouseValues, List.nodup_cons, List.mem_cons, not_or] at distinct
  obtain ⟨⟨-, -, -, none, -⟩, ⟨-, -, abs, -⟩, ⟨-, compat, -⟩, ⟨rel, -⟩, -⟩ := distinct
  exact ⟨Ne.symm none, Ne.symm abs, Ne.symm compat, Ne.symm rel⟩

theorem keyboardKindOf_ps2 (wf : p.WF) (has : p.hasPs2 = true) : keyboardKindOf p p.kbdPs2 = .ps2Keyboard := by
  obtain ⟨none, usb⟩ := kbdPs2_ne wf
  simp [keyboardKindOf, none, usb, has]

theorem mouseKindOf_ps2 (wf : p.WF) (has : p.hasPs2 = true) : mouseKindOf p p.mousePs2 = .ps2Mouse := by
  obtain ⟨none, abs, compat, rel⟩ := mousePs2_ne wf
  simp [mouseKindOf, none, abs, compat, rel, has]

end

/-- Settles O54: the boot step is the boot sequence on the state from which `REC.INIT` returns `v`. -/
theorem bootInstantiatesTheDrivers : Obligations.BootInstantiatesTheDrivers := by
  intro s u v main place init returned
  cases init
  cases returned
  let s' := s.popEvent.settle
  obtain ⟨kbdBackend, mouseBackend⟩ := boot_backends s'
  obtain ⟨kbdKind, mouseKind⟩ := boot_kinds s'
  refine ⟨s'.boot, step_of_main_boot main place, rfl, boot_nv s', boot_out s', kbdBackend, mouseBackend,
    fun sel => ?kbdNone, fun sel => ?mouseNone, fun wf has sel => ?kbdPs2, fun wf has sel => ?mousePs2,
    boot_resetRequired s', boot_keeps s'⟩
  case kbdNone => exact (kbdKind.trans (congrArg _ sel)).trans (keyboardKindOf_none _)
  case mouseNone => exact (mouseKind.trans (congrArg _ sel)).trans (mouseKindOf_none _)
  case kbdPs2 => exact (kbdKind.trans (congrArg _ sel)).trans (keyboardKindOf_ps2 wf has)
  case mousePs2 => exact (mouseKind.trans (congrArg _ sel)).trans (mouseKindOf_ps2 wf has)

/-! ### Restart (R370) -/

theorem Channel.reset_quiet : Channel.reset.Quiet := ⟨rfl, rfl, rfl, rfl, rfl⟩

theorem restart_chan (s : State) (landed : Byte) (ch : Chan) : (s.restart landed).chan ch = Channel.reset := by
  cases ch <;> rfl

/-- R318: each byte of a torn record is old or new. -/
theorem get_mix (mask : Byte) (old new : Frame) {k : Nat} (h : k < 8) :
    (Frame.mix mask old new).get k = if mask.getLsbD k then new.get k else old.get k := by
  interval_cases k <;> rfl

theorem restart_nv_of_whole {s : State} (whole : s.nvTorn = none) (landed : Byte) : (s.restart landed).nv = s.nv := by
  simp only [State.restart, State.resetWith, State.nvAfterRestart, whole]

theorem restart_nv_of_torn {s : State} {old : Frame} (torn : s.nvTorn = some old) (landed : Byte) :
    (s.restart landed).nv = Frame.mix landed old s.nv := by
  simp only [State.restart, State.resetWith, State.nvAfterRestart, torn]

theorem step_of_restart {s : State} {landed : Byte} (event : s.nextEvent = .restart landed) :
    step s = .next (s.popEvent.restart landed) := by
  rw [step, event, runEvent]

/-- Settles O55: both channels hold `Channel.reset`; the record is the old one unless a write was under way. -/
theorem restartKeepsOnlyTheRecord : Obligations.RestartKeepsOnlyTheRecord := by
  intro s landed event
  refine ⟨_, step_of_restart event, rfl, rfl, rfl, rfl, rfl, rfl, rfl, rfl, rfl, rfl, rfl, fun ch => ?channels,
    fun whole => restart_nv_of_whole (s := s.popEvent) whole landed, fun old torn k inUnit => ?torn⟩
  case channels =>
    rw [restart_chan]
    exact ⟨Channel.reset_quiet, rfl, rfl, rfl⟩
  case torn =>
    rw [restart_nv_of_torn (s := s.popEvent) torn landed]
    exact get_mix landed old s.nv inUnit

end Sys2Proof.Machine
end
